-- ==== Sys2Proof/Word.lean ====
section
/-! DEFINITION. The two word sizes of the manual (00_scope.md, Conventions) and the other quantities that the manual
treats as bits: addresses, sweep numbers, samples. -/

namespace Sys2Proof

/-- A loop word, the unit of frame length. -/
abbrev Word := BitVec 16

/-- A capture word, the unit of capture memory, segment size and segment offsets. -/
abbrev CapWord := BitVec 32

/-- A loop address: 0 the head, 1 to 62 nodes, 63 broadcast. -/
abbrev Addr := BitVec 6

/-- A sweep number. Differences are taken modulo 65536, which is subtraction of this type. -/
abbrev Sweep := BitVec 16

/-- The bits of a slot value: a signed sample, or the absent code. -/
abbrev Sample := BitVec 16

/-- The sample value that means no sample is present (R26), and every padding word of the node (R189). -/
def absentCode : Word := 0x8000#16

/-- The broadcast address, which is also the second strap value that leaves a node unaddressed. -/
def broadcast : Addr := 63#6

end Sys2Proof
end

