-- ==== Sys2Proof/Config.lean ====
section
/-! DEFINITION. The sizes the manual fixes, and the FREE VALUES: what the manual leaves open without saying what it is.
A free value has no body, so that nothing can be proved of it. -/

namespace Sys2Proof.Config

/-- Ticks of 100 ns of the silence timer's 100 µs (R3, R4). -/
def silenceTicks : Nat := 1000
/-- Ticks of the candidate timer's 200 ns (R151). -/
def candidateTicks : Nat := 2
/-- Ticks of a pulse's 1 µs (R153). -/
def pulseTicks : Nat := 10
/-- Ticks of one unit of NOTICE_RESEND, 1 ms (R178). -/
def resendUnitTicks : Nat := 10000
/-- Ticks of one unit of LEASE_TIME, 10 ms (R178). -/
def leaseUnitTicks : Nat := 100000

/-- The longest frame in loop words (R1, R2). -/
def maxFrame : Nat := 264
/-- The most rows the history holds (R28). -/
def maxHistory : Nat := 1024
/-- The most entries of the notice queue, and the most of them SENT (R127). -/
def maxNotices : Nat := 32
/-- The most SENT entries of the notice queue (R127). -/
def maxSent : Nat := 8
/-- The most entries of the pending event list (R142). -/
def maxPending : Nat := 4
/-- The most entries of the origin table (R160). -/
def maxOrigins : Nat := 4
/-- The words of capture memory (R101). -/
def memoryWords : Nat := 262144
/-- The words of a capture record's header (R86). -/
def headerWords : Nat := 12
/-- The record marker (11_frame_and_record_formats.md, 11.5). -/
def recordMarker : BitVec 16 := 0x7A3C#16

/-- FREE VALUE (log 6). The n-th open choice of a run: which way an order goes that the manual leaves open. -/
opaque choice : Nat → Nat

/-- FREE VALUE (log 10). The word by which a RANGE response names the failing field: of the request kind with this
code, the check with this number in the entry's own order. The manual says that the field is named and gives no code. -/
opaque failingField : Nat → Nat → Word

/-- FREE VALUE (log 11). What GET WATCH reports in the place of the mark mask of a watch whose source is not MARK:
R190 gives a mask no absent form. -/
opaque absentMask : Word

end Sys2Proof.Config
end

