-- ==== Sys2Proof/Syntax.lean ====
section
/-! DEFINITION. The commands of the block: one constructor for each row of spec/opcode_table.json. -/

namespace Sys2Proof

/-- Line 0 or line 1: TIN0 and TIN1, or TOUT0 and TOUT1. -/
inductive Line where
  | l0
  | l1
  deriving DecidableEq, Repr

/-- The two addresses of a header word (11.1). The kind is fixed by the command. -/
structure Header where
  dest : Addr
  src : Addr
  deriving DecidableEq, Repr

/-- What a REQUEST frame carries besides its kind codes and its CRC (R157, R188): the body words from word 2 on, padding
included, as many as make up the frame's length. The frame's length, three words more, is the reply room. -/
structure Request where
  dest : Addr
  src : Addr
  seq : BitVec 8
  body : List Word
  deriving DecidableEq, Repr

/-- How far the output had come at a fall of RESETn (R9, log 9): how many of the last frames had arrived and not begun to
leave, and how many words had left of the frame in transmission before them, or none if there was none. -/
structure Transmission where
  waiting : Nat
  sent : Option Nat
  deriving DecidableEq, Repr

/-- The commands. A frame command is the arrival of that frame at the loop input (R1). Words are given without the CRC
where the row is a valid frame, and as received where it is a damaged one (log 7). -/
inductive Instr where
  /-- RESETn rises with this strap value; `copied` are the words of a frame being copied at that moment, already sent. -/
  | powerOnResetRelease (straps : Addr) (copied : List Word)
  /-- RESETn falls, when the output had come so far. -/
  | resetnFall (sent : Transmission)
  | sendBreak
  /-- A start delimiter is received, with signal present or not. -/
  | startDelimiter (signal : Bool)
  | lossOfSignal
  | silenceTimerExpiry
  /-- The words of the frame as received, its CRC word among them. -/
  | damagedFrame (words : List Word)
  /-- The words of the frame before its CRC. -/
  | forwardFrame (words : List Word)
  /-- The words of the frame before its CRC. -/
  | consumeOwnFrame (words : List Word)
  /-- `countWord` is word 3: the slot count in bits 8 to 0. -/
  | sweepArrival (h : Header) (number mark countWord : Word) (slots : List Word)
  | idleOffer (h : Header) (second : Word) (padding : List Word)
  /-- The resend timer of the SENT entry with this number runs out. -/
  | resendTimerRunOut (number : BitVec 8)
  | eventArrival (h : Header) (second : Word) (padding : List Word)
  /-- The delay timer of the entry at this place of the pending event list, the oldest at 0, reaches its expiry. -/
  | eventExpiry (place : Nat)
  /-- The level on TIN0 or TIN1 becomes high or low. -/
  | tinLevelChange (line : Line) (high : Bool)
  | candidateTimerRunOut (line : Line)
  | pulseTimerRunOut (line : Line)
  | leaseExpiry
  | loopReset (h : Header) (second : Word) (padding : List Word)
  /-- A REQUEST with this request kind code. -/
  | unknownRequest (r : Request) (code : BitVec 8)
  | status (r : Request)
  | getParam (r : Request)
  | setParam (r : Request)
  | readCounters (r : Request)
  | readCountersClear (r : Request)
  | clearTables (r : Request)
  | clearCaptures (r : Request)
  | clearNotices (r : Request)
  | setHistory (r : Request)
  | loadWatch (r : Request)
  | clearWatch (r : Request)
  | getWatch (r : Request)
  | arm (r : Request)
  | disarm (r : Request)
  | armGroup (r : Request)
  | disarmGroup (r : Request)
  | force (r : Request)
  | loadProfile (r : Request)
  | clearProfile (r : Request)
  | getProfile (r : Request)
  | abortCapture (r : Request)
  | getContexts (r : Request)
  | formatRing (r : Request)
  | formatRingForce (r : Request)
  | readSegment (r : Request)
  | releaseSegment (r : Request)
  | segmentInfo (r : Request)
  | scan (r : Request)
  | ackNotices (r : Request)
  | setEventEntry (r : Request)
  | getEventEntry (r : Request)
  | setTime (r : Request)
  | claim (r : Request)
  | renew (r : Request)
  | yield (r : Request)
  | takeover (r : Request)
  deriving DecidableEq, Repr

end Sys2Proof
end

