-- ==== Sys2Proof/Decode.lean ====
section
/-! DEFINITION. The commands that words spell by the bits of spec/opcode_table.json. No row of it gives bits: the table's
fields are empty for all 56 rows, since the commands are frames, pins and run-outs and not instruction words. -/

namespace Sys2Proof

/-- The command that a word spells by the table's bits: none, for the table gives no row any (log 1). -/
def decodeTableWord (_nbits _w : Nat) : Option Instr := none

end Sys2Proof
end

