-- ==== Sys2Proof/Machine/Frame.lean ====
section
/-! DEFINITION. The frames of chapters 1 and 11: header words, the CRC, the judgement of R2, and the frames the node
makes. A frame is its list of loop words, the CRC word last. -/

namespace Sys2Proof.Machine

/-- The eight frame kinds (R186). -/
inductive FrameKind where
  | idle
  | sweep
  | request
  | response
  | notice
  | event
  | reset
  | brk
  deriving DecidableEq, Repr

/-- The kind codes of 11.1. -/
def FrameKind.code : FrameKind → BitVec 4
  | .idle => 0
  | .sweep => 1
  | .request => 2
  | .response => 3
  | .notice => 4
  | .event => 5
  | .reset => 6
  | .brk => 7

/-- The kind a code names; codes 8 to 15 name none (R186). -/
def kindOfCode (c : BitVec 4) : Option FrameKind :=
  match c.toNat with
  | 0 => some .idle
  | 1 => some .sweep
  | 2 => some .request
  | 3 => some .response
  | 4 => some .notice
  | 5 => some .event
  | 6 => some .reset
  | 7 => some .brk
  | _ => none

/-- The header word: kind in bits 15 to 12, destination in 11 to 6, source in 5 to 0. -/
def headerWord (k : FrameKind) (dest src : Addr) : Word :=
  k.code ++ dest ++ src

/-- Word `n` of a frame, 0 where the frame is shorter. -/
def wordOf (ws : List Word) (n : Nat) : Word :=
  ws.getD n 0

/-- Bits 15 to 12 of the header word. -/
def kindField (ws : List Word) : BitVec 4 := (wordOf ws 0).extractLsb' 12 4
/-- Bits 11 to 6 of the header word. -/
def destOf (ws : List Word) : Addr := (wordOf ws 0).extractLsb' 6 6
/-- Bits 5 to 0 of the header word. -/
def srcOf (ws : List Word) : Addr := (wordOf ws 0).extractLsb' 0 6
/-- The kind of a frame, none where it has no header word or an undefined kind code (R2, R186). -/
def kindOf (ws : List Word) : Option FrameKind :=
  match ws with
  | [] => none
  | _ :: _ => kindOfCode (kindField ws)

/-- One bit of the division by x^16 + x^12 + x^5 + 1 (R187). -/
def crcBit (r : Word) (b : Bool) : Word :=
  if r.msb == b then r <<< 1 else (r <<< 1) ^^^ 0x1021#16

/-- One word of the CRC's stream, most significant bit first. -/
def crcWord (r w : Word) : Word :=
  [15, 14, 13, 12, 11, 10, 9, 8, 7, 6, 5, 4, 3, 2, 1, 0].foldl (fun r i => crcBit r (w.getLsbD i)) r

/-- The CRC over the words before the CRC word: the register starts at FFFFh and is not inverted (R187). -/
def crc (ws : List Word) : Word :=
  ws.foldl crcWord 0xFFFF#16

/-- The frame made of these words and their CRC. -/
def withCrc (ws : List Word) : List Word :=
  ws ++ [crc ws]

/-- The last word is the CRC of the words before it (R187). -/
def crcMatches (ws : List Word) : Bool :=
  ws.getLast? == some (crc ws.dropLast)

/-- The slot count field of a SWEEP: bits 8 to 0 of word 3; bits 15 to 9 are reserved and not read (R186, R188). -/
def slotCountOf (ws : List Word) : Nat :=
  (wordOf ws 3).toNat % 512

/-- The length rule of each kind (R2). -/
def lengthOk (k : FrameKind) (ws : List Word) : Bool :=
  match k with
  | .sweep => decide (1 ≤ slotCountOf ws ∧ slotCountOf ws ≤ 256 ∧ ws.length = slotCountOf ws + 5)
  | .request | .response => decide (8 ≤ ws.length ∧ ws.length ≤ Config.maxFrame)
  | .notice => decide (ws.length = 16)
  | .idle | .event | .reset | .brk => decide (3 ≤ ws.length ∧ ws.length ≤ Config.maxFrame)

/-- A frame is valid when its kind is defined, its length keeps its kind's rule and its CRC matches; otherwise it is
damaged (R2). A frame of more than 264 words is judged over 264, which keeps no rule. -/
def frameValid (ws : List Word) : Bool :=
  match kindOf ws with
  | none => false
  | some k => lengthOk k ws && crcMatches ws

/-- Padding words, each the absent code (R189). -/
def paddingWords (n : Nat) : List Word :=
  List.replicate n absentCode

/-- An IDLE the node makes, of `len` words, with the damaged flag or without; destination and source 0 (R6, R12). -/
def idleFrame (damaged : Bool) (len : Nat) : List Word :=
  withCrc ([headerWord .idle 0 0, if damaged then 0x8000 else 0] ++ paddingWords (len - 3))

/-- The BREAK frame of a node with this strap value: 8 words, destination 0, second header word 0 (R3, R188). -/
def breakFrame (strap : Addr) : List Word :=
  withCrc ([headerWord .brk 0 strap, 0] ++ paddingWords 5)

/-- The length of the IDLE that replaces a damaged frame: the received length held within 3 to 264 (R6). -/
def damagedLength (n : Nat) : Nat :=
  max 3 (min n Config.maxFrame)

/-- A REQUEST's words before its CRC: the header word, the sequence number and kind code, the body (R188). -/
def requestWords (r : Request) (code : BitVec 8) : List Word :=
  [headerWord .request r.dest r.src, r.seq ++ code] ++ r.body

/-- A SWEEP's words before its CRC (R188). -/
def sweepWords (h : Header) (number mark countWord : Word) (slots : List Word) : List Word :=
  [headerWord .sweep h.dest h.src, number, mark, countWord] ++ slots

/-- The words before the CRC of a frame of header, second header word and padding: IDLE, EVENT, RESET (R188). -/
def plainWords (k : FrameKind) (h : Header) (second : Word) (padding : List Word) : List Word :=
  [headerWord k h.dest h.src, second] ++ padding

end Sys2Proof.Machine
end

