-- ==== Sys2Proof/Machine/State.lean ====
section
/-! DEFINITION. The state of the node as plain data, block by block in the manual's order, and its value right after
reset. -/

namespace Sys2Proof.Machine

/-- A timer: stopped, or running with this many ticks of 100 ns remaining. -/
abbrev Timer := Option Nat

/-- The condition of the loop input (chapter 1). -/
inductive Link where
  | down
  | hunt
  | up
  deriving DecidableEq, Repr

/-- What leaves the loop output. The model's own record of the port's one output (log 9). -/
inductive OutItem where
  /-- A frame that leaves whole, its CRC word last; while RESETn is low, a frame that was copied. -/
  | frame (words : List Word)
  /-- The first words of a frame that was cut short (R9). -/
  | cutShort (words : List Word)
  /-- From here the output is the bit copy of the input (R9). -/
  | copyStarts
  /-- From here the output carries the node's own frames again (R9). -/
  | copyEnds
  deriving DecidableEq, Repr

/-- The loop port (chapter 1). -/
structure Port where
  link : Link
  validCount : Nat
  damagedCount : Nat
  silence : Timer
  markWord : BitVec 16
  downSeen : Bool
  out : List OutItem
  deriving DecidableEq, Repr

/-- The kind of a history row: taken from an accepted sweep, or standing for a skipped one (chapter 2). -/
inductive RowKind where
  | received
  | missing
  deriving DecidableEq, Repr

/-- One history row: a value per position of the history set. -/
structure Row where
  kind : RowKind
  values : List Sample
  deriving DecidableEq, Repr

/-- The sweep receiver and the history store (chapter 2); rows oldest first. -/
structure Receiver where
  expected : Option Sweep
  historySet : List (BitVec 8)
  history : List Row
  deriving DecidableEq, Repr

/-- The arrival record of an accepted sweep (R25). -/
structure Arrival where
  number : Sweep
  gap : Nat
  mark : Word
  slots : List Sample
  deriving DecidableEq, Repr

/-- The edge a LINE watch looks for. -/
inductive Edge where
  | rising
  | falling
  deriving DecidableEq, Repr

/-- The source of a watch with exactly the fields that source uses (R35); LEVEL is split by its comparison. -/
inductive Condition where
  | above (slot : BitVec 8) (hi : Sample)
  | below (slot : BitVec 8) (lo : Sample)
  | inside (slot : BitVec 8) (lo hi : Sample)
  | outside (slot : BitVec 8) (lo hi : Sample)
  | rise (slot : BitVec 8) (lo hi : Sample)
  | fall (slot : BitVec 8) (lo hi : Sample)
  | step (slot : BitVec 8) (step : Nat)
  | mark (mask : BitVec 16)
  | event (code : Fin 16)
  | line (line : Line) (edge : Edge)
  deriving DecidableEq, Repr

/-- A set of the two mark output lines. -/
structure PulseLines where
  l0 : Bool
  l1 : Bool
  deriving DecidableEq, Repr

/-- A watch's precondition: the index and the window in sweeps. -/
structure Precondition where
  watch : Fin 32
  window : Nat
  deriving DecidableEq, Repr

/-- The loaded contents of a watch (R35). A pulse that names no line is the absent action pulse. -/
structure Contents where
  condition : Condition
  qualifier : Nat
  precondition : Option Precondition
  group : Fin 4
  budget : Option Nat
  holdoff : Nat
  profile : Option (Fin 8)
  markCode : Option (Fin 16)
  pulse : PulseLines
  notify : Bool
  deriving DecidableEq, Repr

/-- Which threshold a RISE or FALL watch last saw its signal beyond. -/
inductive Latch where
  | unknown
  | low
  | high
  deriving DecidableEq, Repr

/-- The runtime of a watch (R36). -/
structure Runtime where
  run : Nat
  latch : Latch
  previous : Option Sample
  lastFire : Option Sweep
  firesLeft : Option Nat
  holdoffLeft : Nat
  refusals : Nat
  deriving DecidableEq, Repr

/-- The states of a loaded watch (R37). EMPTY is the absence of a watch. -/
inductive WatchState where
  | idle
  | armed
  | fired
  | holdoff
  | spent
  deriving DecidableEq, Repr

/-- A loaded watch. -/
structure Watch where
  state : WatchState
  contents : Contents
  runtime : Runtime
  deriving DecidableEq, Repr

/-- What the ring does when no segment is FREE (R77). -/
inductive Policy where
  | refuse
  | overwrite
  deriving DecidableEq, Repr

/-- A loaded profile (R77). -/
structure Profile where
  slots : List (BitVec 8)
  pre : Nat
  post : Nat
  decimation : Nat
  policy : Policy
  autoRelease : Bool
  notify : Bool
  deriving DecidableEq, Repr

/-- The end reasons of a capture (R104). -/
inductive EndReason where
  | inProgress
  | complete
  | truncated
  | aborted
  | sequence
  | link
  | reset
  deriving DecidableEq, Repr

/-- An ACTIVE capture context (R83). IDLE is the absence of one. -/
structure Context where
  watchRef : Option (Fin 32)
  openingWatch : Fin 32
  profileIndex : Fin 8
  snapshot : Profile
  segment : Fin 64
  sequence : BitVec 32
  trigger : Option Sweep
  pre : Nat
  post : Nat
  gap : Nat
  nextDue : Option Sweep
  used : Nat
  deriving DecidableEq, Repr

/-- The states of a segment that is not FREE, with the context of a FILLING one (R104). -/
inductive SegmentState where
  | filling (context : Fin 4)
  | full
  | reading
  deriving DecidableEq, Repr

/-- The record of a segment that is not FREE (R104). FREE is the absence of one. -/
structure Segment where
  state : SegmentState
  sequence : BitVec 32
  fill : Nat
  highWater : Nat
  autoRelease : Bool
  endReason : EndReason
  deriving DecidableEq, Repr

/-- One listed word of capture memory: its address in words and its contents. -/
abbrev MemCell := Nat × CapWord

/-- Capture memory: the listed words by rising address, none of them equal to what an unlisted word reads as (log 3). -/
abbrev Memory := List MemCell

/-- The segment ring (chapter 6). Segments `segCount` and up of `segs` do not exist and stay absent. -/
structure Ring where
  segCount : Nat
  segSize : Nat
  segs : Vector (Option Segment) 64
  cursor : Nat
  completed : List (Fin 64)
  low : Bool
  mem : Memory
  deriving DecidableEq, Repr

/-- The nine kinds of notice (R126). -/
inductive NoticeKind where
  | restart
  | link
  | captureLost
  | ringLow
  | leaseLost
  | watchRefused
  | eventDropped
  | captureDone
  | watchFired
  deriving DecidableEq, Repr

/-- What the subject of a notice is a number of (R125). -/
inductive SubjectClass where
  | watch
  | segment
  | code
  | address
  | count
  | nothing
  deriving DecidableEq, Repr

/-- What a SENT entry holds beyond a QUEUED one (R125); `order` stamps its first send (R130, log 16). -/
structure Sent where
  number : BitVec 8
  resends : Nat
  timer : Timer
  due : Bool
  order : Nat
  deriving DecidableEq, Repr

/-- A notice entry: QUEUED where `sent` is absent, SENT otherwise (R125). -/
structure Notice where
  kind : NoticeKind
  subject : Nat
  cls : SubjectClass
  repeats : Nat
  sent : Option Sent
  deriving DecidableEq, Repr

/-- The notice unit (chapter 7); queue oldest posting first. -/
structure NoticeUnit where
  queue : List Notice
  nextNumber : BitVec 8
  overflow : Bool
  sends : Nat
  deriving DecidableEq, Repr

/-- An entry of the event table (R144). -/
structure EventEntry where
  enable : Bool
  arm : BitVec 4
  disarm : BitVec 4
  zeroTime : Bool
  pulse : PulseLines
  deriving DecidableEq, Repr

/-- An entry of the pending event list: the code and its delay timer's remaining ticks (R142, R143). -/
structure WaitingEvent where
  code : Fin 16
  ticks : Nat
  deriving DecidableEq, Repr

/-- The event unit (chapter 8). -/
structure EventUnit where
  table : Vector EventEntry 16
  waiting : List WaitingEvent
  timeBase : BitVec 48
  deriving DecidableEq, Repr

/-- The settled level of a detector (R151). -/
inductive Settled where
  | unsettled
  | low
  | high
  deriving DecidableEq, Repr

/-- A trigger input detector: settled level, the pin's present level, candidate timer (R151). -/
structure Detector where
  settled : Settled
  level : Bool
  timer : Timer
  deriving DecidableEq, Repr

/-- The line unit (chapter 8); a pulse timer that is stopped is AT REST. -/
structure Lines where
  tin0 : Detector
  tin1 : Detector
  tout0 : Timer
  tout1 : Timer
  deriving DecidableEq, Repr

/-- An entry of the origin table (R160). The cached response is its words up to the padding, without CRC (R163). -/
structure Origin where
  addr : Addr
  lastSeq : Option (BitVec 8)
  cached : Option (List Word)
  deriving DecidableEq, Repr

/-- The request handler (chapter 9); origins most recently used first. -/
structure Session where
  origins : List Origin
  holder : Option Addr
  leaseTimer : Timer
  deriving DecidableEq, Repr

/-- The seven parameters (R178). -/
structure Params where
  noticeSink : Nat
  noticeResend : Nat
  noticeLimit : Nat
  leaseTime : Nat
  eventDelay : Nat
  ringLow : Nat
  takeoverOrigin : Nat
  deriving DecidableEq, Repr

end Sys2Proof.Machine

namespace Sys2Proof.Machine

/-- The node. `script` and `draws` are the model's own: the open choices still to be made, first one next, and how many
were taken from the free value `Config.choice` (log 6). `pending` is the queue of commands. -/
structure State where
  resetLow : Bool
  strap : Addr
  port : Port
  receiver : Receiver
  watches : Vector (Option Watch) 32
  profiles : Vector (Option Profile) 8
  contexts : Vector (Option Context) 4
  captureSeq : BitVec 32
  ring : Ring
  notices : NoticeUnit
  events : EventUnit
  lines : Lines
  session : Session
  params : Params
  counters : Vector (BitVec 32) 12
  script : List Nat
  draws : Nat
  pending : List Instr
  deriving DecidableEq, Repr

/-- Why the node stops: never. The manual gives every command an effect in every state, so this type has no
constructor and no meaning can answer with a fault. -/
inductive Fault where
  deriving DecidableEq, Repr

/-- Why a command has no meaning. -/
inductive Refusal where
  /-- The command is not modelled. Raised by no arm of `exec`; it would be safe, since a refused command has no next
  state of which anything could be proved. -/
  | notModelled (mnemonic : String)
  deriving DecidableEq, Repr

/-- The port right after reset release, but for what has left the output (R9). -/
def Port.released (out : List OutItem) : Port :=
  { link := .down, validCount := 0, damagedCount := 0, silence := none, markWord := 0, downSeen := false, out := out }

/-- The receiver right after reset release (R33). -/
def Receiver.released : Receiver :=
  { expected := none, historySet := [], history := [] }

/-- The ring right after reset release (R120). Capture memory is not defined there; the model lists nothing (log 3). -/
def Ring.released : Ring :=
  { segCount := 16, segSize := 16384, segs := Vector.replicate 64 none, cursor := 0, completed := [], low := false,
    mem := [] }

/-- The notice unit right after reset release: one RESTART entry (R137). -/
def NoticeUnit.released : NoticeUnit :=
  { queue := [{ kind := .restart, subject := 0, cls := .nothing, repeats := 1, sent := none }], nextNumber := 0,
    overflow := false, sends := 0 }

/-- The power-on value of an event table entry (R144). -/
def EventEntry.powerOn : EventEntry :=
  { enable := false, arm := 0, disarm := 0, zeroTime := false, pulse := { l0 := false, l1 := false } }

/-- The event unit right after reset release (R154). -/
def EventUnit.released : EventUnit :=
  { table := Vector.replicate 16 EventEntry.powerOn, waiting := [], timeBase := 0 }

/-- A detector right after reset release: UNSETTLED, the candidate timer running on the pin's level (R151, R154). -/
def Detector.released (level : Bool) : Detector :=
  { settled := .unsettled, level := level, timer := some Config.candidateTicks }

/-- The line unit right after reset release, with the levels the pins hold (R154). -/
def Lines.released (level0 level1 : Bool) : Lines :=
  { tin0 := Detector.released level0, tin1 := Detector.released level1, tout0 := none, tout1 := none }

/-- The handler right after reset release (R173). -/
def Session.released : Session :=
  { origins := [], holder := none, leaseTimer := none }

/-- The parameters' power-on values (R178). -/
def Params.powerOn : Params :=
  { noticeSink := 0, noticeResend := 10, noticeLimit := 3, leaseTime := 500, eventDelay := 0, ringLow := 2,
    takeoverOrigin := 0 }

/-- The node right after RESETn rises with this strap value and these levels on TIN0 and TIN1 (R9, R33, R50, R82, R84,
R120, R137, R154, R173, R176, R178, R182). What is not the node's own after reset is carried over: what has left the
output, the model's choices and the queue of commands. -/
def State.released (straps : Addr) (level0 level1 : Bool) (out : List OutItem) (script : List Nat) (draws : Nat)
    (queue : List Instr) : State :=
  { resetLow := false
    strap := straps
    port := Port.released out
    receiver := Receiver.released
    watches := Vector.replicate 32 none
    profiles := Vector.replicate 8 none
    contexts := Vector.replicate 4 none
    captureSeq := 0
    ring := Ring.released
    notices := NoticeUnit.released
    events := EventUnit.released
    lines := Lines.released level0 level1
    session := Session.released
    params := Params.powerOn
    counters := Vector.replicate 12 0
    script := script
    draws := draws
    pending := queue }

/-- The machine right after reset: RESETn has risen, with straps that read 0 and low trigger inputs (DESIGN CHOICE, log 1
and log 2). A program of commands begins with POWER_ON_RESET_RELEASE, which latches the straps it gives. -/
def State.reset : State :=
  State.released 0 false false [] [] 0 []

end Sys2Proof.Machine
end

