-- ==== Sys2Proof/Machine/Ops.lean ====
section
/-! DEFINITION. The named operations that every block shares: timers, the counters, the open choices, capture memory,
the loop output, the tables' entries, and the posting of a notice (R127 to R129). -/

namespace Sys2Proof.Machine

/-- One tick of 100 ns of a timer. The last tick is not taken here: a run-out is a command of its own (log 5). -/
def tickTimer : Timer → Timer
  | some (n + 2) => some (n + 1)
  | t => t

/-- Every element of a table replaced by its image; the index is given too. -/
def mapTable {α β : Type} {n : Nat} (f : Fin n → α → β) (v : Vector α n) : Vector β n :=
  Vector.ofFn fun i => f i v[i]

/-- The indices of a table whose elements satisfy a test, ascending. -/
def indicesWhere {α : Type} {n : Nat} (p : α → Bool) (v : Vector α n) : List (Fin n) :=
  (List.finRange n).filter fun i => p v[i]

/-- Element `i` of a table replaced. -/
def setAt {α : Type} {n : Nat} (v : Vector α n) (i : Fin n) (x : α) : Vector α n :=
  v.set i.val x i.isLt

/-! ### Counters -/

/-- The twelve counters, in the order of R182. -/
inductive Counter where
  | damagedFrames
  | linkDowns
  | missedSweeps
  | resyncs
  | fires
  | firesRefused
  | capturesDone
  | capturesLost
  | noticesDropped
  | noticesExpired
  | eventsDropped
  | replays
  deriving DecidableEq, Repr

/-- A counter's place in the order of R182. -/
def Counter.index : Counter → Fin 12
  | .damagedFrames => 0
  | .linkDowns => 1
  | .missedSweeps => 2
  | .resyncs => 3
  | .fires => 4
  | .firesRefused => 5
  | .capturesDone => 6
  | .capturesLost => 7
  | .noticesDropped => 8
  | .noticesExpired => 9
  | .eventsDropped => 10
  | .replays => 11

/-- An increase that stops at 4294967295 (R182). -/
def satAdd (c : BitVec 32) (d : Nat) : BitVec 32 :=
  BitVec.ofNat 32 (min (c.toNat + d) 4294967295)

/-- The value of a counter. -/
def State.counter (s : State) (c : Counter) : BitVec 32 :=
  s.counters[c.index]

/-- A counter increased by `d` (R182). -/
def State.bump (s : State) (c : Counter) (d : Nat) : State :=
  { s with counters := setAt s.counters c.index (satAdd (s.counter c) d) }

/-! ### Open choices -/

/-- The next open choice: from the script, and from the free value where the script is spent (log 6). -/
def State.draw (s : State) : Nat × State :=
  match s.script with
  | x :: rest => (x, { s with script := rest })
  | [] => (Config.choice s.draws, { s with draws := s.draws + 1 })

/-- The `x`-th order of a list: every order of a list of `fuel` elements or fewer is the `x`-th for some `x`. -/
def arrange {α : Type} : Nat → List α → Nat → List α
  | 0, l, _ => l
  | fuel + 1, l, x =>
    match l[x % l.length]? with
    | none => []
    | some a => a :: arrange fuel (l.eraseIdx (x % l.length)) (x / l.length)

/-! ### Capture memory -/

/-- What an unlisted word of capture memory reads as (DESIGN CHOICE, log 3). -/
def Memory.unlisted : CapWord := 0

/-- The capture word at an address. -/
def Memory.read : Memory → Nat → CapWord
  | [], _ => Memory.unlisted
  | (b, v) :: rest, a => if a = b then v else Memory.read rest a

/-- Memory with one word written; the canonical form is kept. -/
def Memory.write : Memory → Nat → CapWord → Memory
  | [], a, v => if v = Memory.unlisted then [] else [(a, v)]
  | (b, w) :: rest, a, v =>
    if a < b then (if v = Memory.unlisted then (b, w) :: rest else (a, v) :: (b, w) :: rest)
    else if a = b then (if v = Memory.unlisted then rest else (a, v) :: rest)
    else (b, w) :: Memory.write rest a v

/-- Memory with words written from an address on. -/
def Memory.writeAll : Memory → Nat → List CapWord → Memory
  | m, _, [] => m
  | m, a, v :: rest => Memory.writeAll (Memory.write m a v) (a + 1) rest

/-- The words of a range of memory. -/
def Memory.readRange (m : Memory) (a n : Nat) : List CapWord :=
  (List.range n).map fun k => Memory.read m (a + k)

/-- The canonical form: addresses strictly rising, no word listed that reads as an unlisted one does. -/
abbrev Memory.wf (m : Memory) : Prop :=
  m.Pairwise (fun c d => c.1 < d.1) ∧ ∀ c ∈ m, c.2 ≠ Memory.unlisted

/-! ### The loop output -/

/-- One item leaves the output. -/
def State.emit (s : State) (o : OutItem) : State :=
  { s with port := { s.port with out := s.port.out ++ [o] } }

/-- The node is addressed: its straps read 1 to 62 (R176). -/
def State.addressed (s : State) : Bool :=
  s.strap != 0 && s.strap != broadcast

/-! ### The entries of the tables -/

/-- A watch entry replaced by its image; an EMPTY entry stays EMPTY. -/
def State.modifyWatch (s : State) (i : Fin 32) (f : Watch → Watch) : State :=
  { s with watches := setAt s.watches i (s.watches[i].map f) }

/-- A context's fields replaced by their image; an IDLE context stays IDLE. -/
def State.modifyContext (s : State) (c : Fin 4) (f : Context → Context) : State :=
  { s with contexts := setAt s.contexts c (s.contexts[c].map f) }

/-- A segment's record replaced by its image; a FREE segment stays FREE. -/
def State.modifySegment (s : State) (g : Fin 64) (f : Segment → Segment) : State :=
  { s with ring := { s.ring with segs := setAt s.ring.segs g (s.ring.segs[g].map f) } }

/-- The ACTIVE contexts, ascending (R83). -/
def State.activeContexts (s : State) : List (Fin 4) :=
  indicesWhere Option.isSome s.contexts

/-! ### Posting a notice -/

/-- The priority of a kind, 3 the highest (R126). -/
def NoticeKind.priority : NoticeKind → Nat
  | .restart | .link | .captureLost => 3
  | .ringLow | .leaseLost | .watchRefused | .eventDropped => 2
  | .captureDone | .watchFired => 1

/-- QUEUED: not SENT (R125). -/
def Notice.queued (n : Notice) : Bool := n.sent.isNone

/-- Equal kind and subject, the subject compared together with its class (R125). -/
def Notice.sameAs (n m : Notice) : Bool :=
  decide (n.kind = m.kind) && decide (n.subject = m.subject) && decide (n.cls = m.cls)

/-- The queue with the matching QUEUED entry's repeat count increased, none where no entry matches (R128). -/
def coalesce (n : Notice) : List Notice → Option (List Notice)
  | [] => none
  | m :: rest =>
    if m.queued && n.sameAs m then some ({ m with repeats := min (m.repeats + 1) 255 } :: rest)
    else (coalesce n rest).map (m :: ·)

/-- The lowest priority among the QUEUED entries, none where no entry is QUEUED (R129). -/
def lowestQueued : List Notice → Option Nat
  | [] => none
  | m :: rest =>
    if m.queued then
      match lowestQueued rest with
      | none => some m.kind.priority
      | some p => some (min m.kind.priority p)
    else lowestQueued rest

/-- The queue less the youngest QUEUED entry of a priority (R129). -/
def evictYoungest (p : Nat) (q : List Notice) : List Notice :=
  (q.reverse.eraseP fun m => m.queued && m.kind.priority == p).reverse

/-- The count of SENT entries (R127). -/
def sentCount (q : List Notice) : Nat :=
  q.countP fun m => m.sent.isSome

/-- The notice queue replaced. -/
def State.setQueue (s : State) (q : List Notice) : State :=
  { s with notices := { s.notices with queue := q } }

/-- A notice is lost at a full queue: NOTICES_DROPPED and the overflow latch (R129). -/
def State.noticeLost (s : State) : State :=
  let t := s.bump .noticesDropped 1
  { t with notices := { t.notices with overflow := true } }

/-- A posting (R128, R129). -/
def State.post (s : State) (kind : NoticeKind) (subject : Nat) (cls : SubjectClass) : State :=
  let n : Notice := { kind := kind, subject := subject, cls := cls, repeats := 1, sent := none }
  match coalesce n s.notices.queue with
  | some q => s.setQueue q
  | none =>
    if s.notices.queue.length < Config.maxNotices then s.setQueue (s.notices.queue ++ [n])
    else
      match lowestQueued s.notices.queue with
      | none => s.noticeLost
      | some p =>
        if p < kind.priority then (s.setQueue (evictYoungest p s.notices.queue ++ [n])).noticeLost
        else s.noticeLost

end Sys2Proof.Machine
end

