-- ==== Sys2Proof/Machine/Flags.lean ====
section
/-! DEFINITION. The status codes and every flag the node reports: the status word of a RESPONSE (R188), the flags of a
NOTICE (R132), and the flag-set words of R190. -/

namespace Sys2Proof.Machine

/-- The status codes (9.3). -/
inductive Status where
  | ok
  | denied
  | held
  | range
  | conflict
  | busy
  | state
  | empty
  | none
  | room
  | unknown
  deriving DecidableEq, Repr

/-- The code of a status (the status word table of R188). -/
def Status.code : Status → BitVec 8
  | .ok => 0
  | .denied => 1
  | .held => 2
  | .range => 3
  | .conflict => 4
  | .busy => 5
  | .state => 6
  | .empty => 7
  | .none => 8
  | .room => 9
  | .unknown => 10

/-- One bit at a place of a word. -/
def bitAt (n : Nat) (b : Bool) : Word :=
  if b then 1#16 <<< n else 0

/-- The status word: REPLAYED in bit 15, SHORT in bit 14, the status code in bits 7 to 0 (R188). -/
def statusWord (replayed short : Bool) (st : Status) : Word :=
  bitAt 15 replayed ||| bitAt 14 short ||| st.code.setWidth 16

/-- A word with REPLAYED set (R161). -/
def markReplayed (w : Word) : Word :=
  w ||| bitAt 15 true

/-- Word 2 of a NOTICE: OVERFLOW in bit 0, SEGMENT in bit 1 (R188). SEGMENT is set for a CAPTURE_LOST whose subject is
a segment (R126). -/
def noticeFlags (overflow : Bool) (n : Notice) : Word :=
  bitAt 0 overflow ||| bitAt 1 (decide (n.kind = .captureLost) && decide (n.cls = .segment))

/-- The flag-set word of a single flag, in bit 0 (R190): ORPHAN-FREE, LOST, CLEARED. -/
def flagWord (b : Bool) : Word :=
  bitAt 0 b

/-- A set of mark output lines as its word: bit 0 TOUT0, bit 1 TOUT1 (R190). -/
def pulseWord (p : PulseLines) : Word :=
  bitAt 0 p.l0 ||| bitAt 1 p.l1

/-- The lines that a word names (R190). -/
def pulseOf (w : Word) : PulseLines :=
  { l0 := w.getLsbD 0, l1 := w.getLsbD 1 }

/-- The bit of a mark code in the pending mark word (R17). -/
def markBit (m : Fin 16) : BitVec 16 :=
  bitAt m.val true

end Sys2Proof.Machine
end

