-- ==== Sys2Proof/Machine/Operands.lean ====
section
/-! DEFINITION. The operand forms of R190: how parameters are read from a REQUEST's body, and how items are written into
a RESPONSE's body. -/

namespace Sys2Proof.Machine

/-! ### Reading parameters -/

/-- Word `n` of a body, absent where it lies beyond the body: a missing word (R157). -/
def paramWord (body : List Word) (n : Nat) : Option Word :=
  body[n]?

/-- A small number: the whole word. -/
def paramSmall (body : List Word) (n : Nat) : Option Nat :=
  (paramWord body n).map BitVec.toNat

/-- An enumeration's code: bits 7 to 0, the rest reserved. -/
def paramEnum (body : List Word) (n : Nat) : Option Nat :=
  (paramWord body n).map fun w => w.toNat % 256

/-- Yes or no: codes 1 and 0. Other codes are outside its values. -/
def paramYesNo (body : List Word) (n : Nat) : Option Bool :=
  match paramEnum body n with
  | some 0 => some false
  | some 1 => some true
  | _ => none

/-- A full 16-bit number that must be present: the present word is 1. A present word of 0, or one outside its values,
gives none (R190, log 14). -/
def paramFull (body : List Word) (n : Nat) : Option Nat :=
  match paramWord body n, paramWord body (n + 1) with
  | some p, some v => if p = 1 then some v.toNat else none
  | _, _ => none

/-- Whether a full 16-bit number is present: its present word is 0 or 1, and both its words are there (R190). Another
present word gives none. -/
def paramPresence (body : List Word) (n : Nat) : Option Bool :=
  match paramWord body n, paramWord body (n + 1) with
  | some p, some _ => if p = 0 then some false else if p = 1 then some true else none
  | _, _ => none

/-- A 32-bit number, low half first. -/
def param32 (body : List Word) (n : Nat) : Option Nat :=
  match paramWord body n, paramWord body (n + 1) with
  | some lo, some hi => some (lo.toNat + 65536 * hi.toNat)
  | _, _ => none

/-- A 48-bit number, lowest 16 bits first. -/
def param48 (body : List Word) (n : Nat) : Option (BitVec 48) :=
  match paramWord body n, paramWord body (n + 1), paramWord body (n + 2) with
  | some a, some b, some c => some (c ++ b ++ a)
  | _, _, _ => none

/-- The two slot numbers of a word, the earlier in bits 7 to 0. -/
def slotPair (w : Word) : List (BitVec 8) :=
  [w.extractLsb' 0 8, w.extractLsb' 8 8]

/-- `k` slot numbers from word `n` on, two to a word; none where a word is missing. -/
def paramSlots (body : List Word) (n k : Nat) : Option (List (BitVec 8)) :=
  let words := (body.drop n).take ((k + 1) / 2)
  if words.length = (k + 1) / 2 then some ((words.flatMap slotPair).take k) else none

/-- `k` words from word `n` on; none where a word is missing. -/
def paramWords (body : List Word) (n k : Nat) : Option (List Word) :=
  let words := (body.drop n).take k
  if words.length = k then some words else none

/-- The number as an index below `n`, none where it is out of range. -/
def indexBelow (n : Nat) (x : Nat) : Option (Fin n) :=
  if h : x < n then some ⟨x, h⟩ else none

/-- The word an absent small number or enumeration is written as. -/
def absentNumber : Nat := 65535

/-! ### Writing items -/

/-- A small number or an enumeration's code. -/
def itemSmall (n : Nat) : List Word := [BitVec.ofNat 16 n]

/-- An optional small number. -/
def itemSmallOpt (o : Option Nat) : List Word := itemSmall (o.getD absentNumber)

/-- Yes or no. -/
def itemYesNo (b : Bool) : List Word := itemSmall (if b then 1 else 0)

/-- A full 16-bit number, present. -/
def itemFull (v : BitVec 16) : List Word := [1, v]

/-- An optional full 16-bit number: absent as two words of 0. -/
def itemFullOpt (o : Option (BitVec 16)) : List Word :=
  match o with
  | none => [0, 0]
  | some v => itemFull v

/-- A sample value, absent as the absent code. -/
def itemSampleOpt (o : Option Sample) : List Word := [o.getD absentCode]

/-- A 32-bit number, low half first. -/
def item32 (v : BitVec 32) : List Word := [v.extractLsb' 0 16, v.extractLsb' 16 16]

/-- A 48-bit number, lowest 16 bits first. -/
def item48 (v : BitVec 48) : List Word := [v.extractLsb' 0 16, v.extractLsb' 16 16, v.extractLsb' 32 16]

/-- A 32-bit number given as a natural. -/
def itemNat32 (n : Nat) : List Word := item32 (BitVec.ofNat 32 n)

/-- Slot numbers two to a word, the earlier in bits 7 to 0; a spare half is reserved, 0. -/
def packSlots : List (BitVec 8) → List Word
  | [] => []
  | [a] => [0#8 ++ a]
  | a :: b :: rest => (b ++ a) :: packSlots rest

/-- A slot list: its count, then its slots. -/
def itemSlots (l : List (BitVec 8)) : List Word := itemSmall l.length ++ packSlots l

/-- A set of watch indices: one 32-bit mask, bit n for watch n. -/
def itemWatchSet (l : List (Fin 32)) : List Word :=
  item32 (l.foldl (fun m i => m ||| (1#32 <<< i.val)) 0)

/-- An address, or absent. -/
def itemAddrOpt (o : Option Addr) : List Word := itemSmallOpt (o.map BitVec.toNat)

end Sys2Proof.Machine
end

