-- ==== Sys2Proof/Machine/Ring.lean ====
section
/-! DEFINITION. The segment ring's own operations (chapter 6): the FREE count, the ring-low test, allocation and
reclaim, the end of a capture, the freeing of segments, the return of READING segments. -/

namespace Sys2Proof.Machine

/-- The segments of the present format, ascending (R101). -/
def Ring.indices (r : Ring) : List (Fin 64) :=
  (List.finRange 64).filter fun g => decide (g.val < r.segCount)

/-- The segments of the present format in ring order from the cursor (R101, R108). -/
def Ring.fromCursor (r : Ring) : List (Fin 64) :=
  (List.range r.segCount).map fun k => Fin.ofNat 64 ((r.cursor + k) % r.segCount)

/-- The count of FREE segments. -/
def Ring.freeCount (r : Ring) : Nat :=
  r.indices.countP fun g => r.segs[g].isNone

/-- The count of segments whose state satisfies a test. -/
def Ring.stateCount (r : Ring) (p : SegmentState → Bool) : Nat :=
  r.indices.countP fun g =>
    match r.segs[g] with
    | none => false
    | some x => p x.state

/-- FILLING, for some context. -/
def SegmentState.isFilling : SegmentState → Bool
  | .filling _ => true
  | .full => false
  | .reading => false

/-- A segment is FULL. -/
def Ring.isFull (r : Ring) (g : Fin 64) : Bool :=
  match r.segs[g] with
  | none => false
  | some x => x.state == .full

/-- The first capture word of a segment (R101). -/
def Ring.base (r : Ring) (g : Fin 64) : Nat :=
  g.val * r.segSize

/-- The ring-low test (R111). -/
def State.ringLowTest (s : State) : State :=
  if s.ring.freeCount ≤ s.params.ringLow then
    if s.ring.low then s
    else
      let t := s.post .ringLow s.ring.freeCount .count
      { t with ring := { t.ring with low := true } }
  else { s with ring := { s.ring with low := false } }

/-- A segment is granted: FILLING with the opening's context, number and auto-release flag, high-water 0, fill 12; the
cursor moves to the segment after it in ring order (R108, R109). -/
def State.grant (s : State) (g : Fin 64) (ctx : Fin 4) (sequence : BitVec 32) (auto : Bool) : State :=
  { s with ring := { s.ring with
      segs := setAt s.ring.segs g (some { state := .filling ctx, sequence := sequence, fill := Config.headerWords,
                                          highWater := 0, autoRelease := auto, endReason := .inProgress })
      cursor := (g.val + 1) % s.ring.segCount } }

/-- A segment leaves the completed list; the others keep their order (R107). -/
def State.unlist (s : State) (g : Fin 64) : State :=
  { s with ring := { s.ring with completed := s.ring.completed.filter fun x => x ≠ g } }

/-- Allocation at an opening: the first FREE segment in ring order from the cursor (R108); else under OVERWRITE the
oldest FULL entry of the completed list (R109); else none (R110). -/
def State.allocate (s : State) (ctx : Fin 4) (sequence : BitVec 32) (p : Profile) : Option (Fin 64 × State) :=
  match s.ring.fromCursor.find? fun g => s.ring.segs[g].isNone with
  | some g => some (g, (s.grant g ctx sequence p.autoRelease).ringLowTest)
  | none =>
    match p.policy with
    | .refuse => none
    | .overwrite =>
      match s.ring.completed.find? fun g => s.ring.isFull g with
      | none => none
      | some g =>
        some (g, (((s.unlist g).bump .capturesLost 1).post .captureLost g.val .segment).grant g ctx sequence
          p.autoRelease)

/-- A capture has ended with a record: its segment becomes FULL with the end reason and the fill, and joins the tail of
the completed list (R107). -/
def State.complete (s : State) (g : Fin 64) (reason : EndReason) (fill : Nat) : State :=
  let t := s.modifySegment g fun x => { x with state := .full, endReason := reason, fill := fill }
  { t with ring := { t.ring with completed := t.ring.completed ++ [g] } }

/-- A segment becomes FREE: its record is gone and it leaves the completed list (R115, R117). The ring-low test is the
caller's. -/
def State.freeSegment (s : State) (g : Fin 64) : State :=
  { s.unlist g with ring := { (s.unlist g).ring with segs := setAt s.ring.segs g none } }

/-- Every segment becomes FREE, the completed list is emptied and the cursor becomes 0 (R103, R122). -/
def State.freeAll (s : State) : State :=
  { s with ring := { s.ring with segs := Vector.replicate 64 none, completed := [], cursor := 0 } }

/-- READING becomes FULL; the rest of the record is kept (R116). -/
def Segment.returned (x : Segment) : Segment :=
  { x with state := if x.state = .reading then .full else x.state }

/-- Every READING segment returns to FULL, in its place in the completed list (R116). -/
def State.readingReturn (s : State) : State :=
  { s with ring := { s.ring with segs := mapTable (fun _ o => o.map Segment.returned) s.ring.segs } }

end Sys2Proof.Machine
end

