-- ==== Sys2Proof/Machine/WatchTable.lean ====
section
/-! DEFINITION. The watch table's own operations (chapters 3 and 4): fresh runtime, end step, arming and disarming, the
clearing at a break of the sweep sequence. -/

namespace Sys2Proof.Machine

/-- The fresh runtime of R36. -/
def Runtime.fresh (c : Contents) : Runtime :=
  { run := 0, latch := .unknown, previous := none, lastFire := none, firesLeft := c.budget, holdoffLeft := 0,
    refusals := 0 }

/-- Run count, latch and previous value cleared: the arrival in ARMED by an end step or a holdoff's end (R71, R72). -/
def Runtime.restarted (r : Runtime) : Runtime :=
  { r with run := 0, latch := .unknown, previous := none }

/-- What a resync or a departure clears (R74). -/
def Runtime.broken (r : Runtime) : Runtime :=
  { r with run := 0, latch := .unknown, previous := none, lastFire := none }

/-- ARMED, or SPENT when the fires remaining are present and 0 (R71, R72). -/
def Watch.rearmed (w : Watch) : Watch :=
  if w.runtime.firesLeft = some 0 then { w with state := .spent }
  else { w with state := .armed, runtime := w.runtime.restarted }

/-- The end step (R71). -/
def Watch.endStep (w : Watch) : Watch :=
  if 0 < w.contents.holdoff then
    { w with state := .holdoff, runtime := { w.runtime with holdoffLeft := w.contents.holdoff } }
  else w.rearmed

/-- One arrival record with gap count `d` counted by a HOLDOFF watch (R72). -/
def Watch.countHoldoff (w : Watch) (d : Nat) : Watch :=
  let left := w.runtime.holdoffLeft - (d + 1)
  let v := { w with runtime := { w.runtime with holdoffLeft := left } }
  if left = 0 then v.rearmed else v

/-- ARMED with a fresh runtime (R44). -/
def Watch.armedFresh (w : Watch) : Watch :=
  { w with state := .armed, runtime := Runtime.fresh w.contents }

/-- IDLE with holdoff remaining 0, the rest of the runtime kept (R45). -/
def Watch.disarmed (w : Watch) : Watch :=
  { w with state := .idle, runtime := { w.runtime with holdoffLeft := 0 } }

/-- IDLE with a fresh runtime (R51). -/
def Watch.idleFresh (w : Watch) : Watch :=
  { w with state := .idle, runtime := Runtime.fresh w.contents }

/-- What an arming of a watch meets, in the order of R44. -/
inductive ArmCase where
  | empty
  | busy
  | already
  | noProfile (p : Fin 8)
  | arms
  deriving DecidableEq, Repr

/-- The action profile that is named and not loaded, if any (R44). -/
def State.missingProfile (s : State) (w : Watch) : Option (Fin 8) :=
  match w.contents.profile with
  | none => none
  | some p => if s.profiles[p].isNone then some p else none

/-- Which case of R44 an arming of watch `i` meets. -/
def State.armCase (s : State) (i : Fin 32) : ArmCase :=
  match s.watches[i] with
  | none => .empty
  | some w =>
    match w.state with
    | .fired | .holdoff => .busy
    | .armed => .already
    | .idle | .spent =>
      match s.missingProfile w with
      | some p => .noProfile p
      | none => .arms

/-- The effect of ARM on one watch (R44). -/
def State.armWatch (s : State) (i : Fin 32) : State :=
  if s.armCase i = .arms then s.modifyWatch i Watch.armedFresh else s

/-- What a disarming changes: no EMPTY and no IDLE watch (R45, R48). -/
def State.disarms (s : State) (i : Fin 32) : Bool :=
  match s.watches[i] with
  | none => false
  | some w => w.state != .idle

/-- A context's watch reference cleared where it names watch `i` (R46). -/
def Context.forget (i : Fin 32) (c : Context) : Context :=
  { c with watchRef := if c.watchRef = some i then none else c.watchRef }

/-- The capture that refers to watch `i` is orphaned (R46). -/
def State.orphan (s : State) (i : Fin 32) : State :=
  { s with contexts := mapTable (fun _ o => o.map (Context.forget i)) s.contexts }

/-- The effect of DISARM on one watch (R45, R46). -/
def State.disarmWatch (s : State) (i : Fin 32) : State :=
  match s.watches[i] with
  | none => s
  | some w =>
    match w.state with
    | .idle => s
    | .fired => (s.modifyWatch i Watch.disarmed).orphan i
    | .armed | .holdoff | .spent => s.modifyWatch i Watch.disarmed

/-- The watches of the groups that a mask names, ascending (R47, R48). -/
def State.watchesOf (s : State) (mask : BitVec 4) : List (Fin 32) :=
  indicesWhere (fun o => match o with | none => false | some w => mask.getLsbD w.contents.group.val) s.watches

/-- The watches an ARM GROUP walk changes (R47). -/
def State.armable (s : State) (mask : BitVec 4) : List (Fin 32) :=
  (s.watchesOf mask).filter fun i => s.armCase i == .arms

/-- The watches a DISARM GROUP walk changes (R48). -/
def State.disarmable (s : State) (mask : BitVec 4) : List (Fin 32) :=
  (s.watchesOf mask).filter fun i => s.disarms i

/-- The ARM GROUP walk (R47). -/
def State.armGroup (s : State) (mask : BitVec 4) : State :=
  (s.watchesOf mask).foldl State.armWatch s

/-- The DISARM GROUP walk (R48). -/
def State.disarmGroup (s : State) (mask : BitVec 4) : State :=
  (s.watchesOf mask).foldl State.disarmWatch s

/-- The watch table at a resync report or a departure report (R74). -/
def State.breakWatches (s : State) : State :=
  { s with watches := mapTable (fun _ o => o.map fun w => { w with runtime := w.runtime.broken }) s.watches }

/-- The watch table at a loop reset (R51). -/
def State.resetWatches (s : State) : State :=
  { s with watches := mapTable (fun _ o => o.map Watch.idleFresh) s.watches }

/-- The end step of the watch a context refers to, or of none (R75). -/
def State.endStepOf (s : State) (o : Option (Fin 32)) : State :=
  match o with
  | none => s
  | some i => s.modifyWatch i Watch.endStep

end Sys2Proof.Machine
end

