-- ==== Sys2Proof/Machine/Capture.lean ====
section
/-! DEFINITION. The capture engine (chapter 5): the record's layout (R191), the pre rows, opening a capture, post rows,
and the ends of captures. -/

namespace Sys2Proof.Machine

/-! ### The record's layout -/

/-- The row size r: k samples two to a word (R77). -/
def Profile.rowSize (p : Profile) : Nat := (p.slots.length + 1) / 2

/-- The code of an end reason (11.5). -/
def EndReason.code : EndReason → BitVec 4
  | .inProgress => 0
  | .complete => 1
  | .truncated => 2
  | .aborted => 3
  | .sequence => 4
  | .link => 5
  | .reset => 6

/-- Header word 0: marker, opening watch, profile index, end reason. -/
def Context.word0 (c : Context) (r : EndReason) : CapWord :=
  Config.recordMarker ++ BitVec.ofNat 8 c.openingWatch.val ++ BitVec.ofNat 4 c.profileIndex.val ++ r.code

/-- Header word 1: trigger sweep with its valid flag, slot count, decimation. -/
def Context.word1 (c : Context) : CapWord :=
  c.trigger.getD 0 ++ BitVec.ofBool c.trigger.isSome ++ BitVec.ofNat 5 c.snapshot.slots.length ++ 0#1 ++
    BitVec.ofNat 9 c.snapshot.decimation

/-- Header word 3: post rows and pre rows. -/
def Context.word3 (c : Context) : CapWord :=
  BitVec.ofNat 16 c.post ++ 0#5 ++ BitVec.ofNat 11 c.pre

/-- Byte `j` of the header's slot list, 0 at positions k and beyond. -/
def Profile.slotByte (p : Profile) (j : Nat) : BitVec 8 := p.slots.getD j 0

/-- Header word 8 + j: the slots of positions 4j to 4j + 3, the lowest in bits 7 to 0. -/
def Profile.slotWord (p : Profile) (j : Nat) : CapWord :=
  p.slotByte (4 * j + 3) ++ p.slotByte (4 * j + 2) ++ p.slotByte (4 * j + 1) ++ p.slotByte (4 * j)

/-- The twelve words of the header (11.5). -/
def Context.header (c : Context) (r : EndReason) (timestamp : BitVec 48) : List CapWord :=
  [c.word0 r, c.word1, c.sequence, c.word3, BitVec.ofNat 32 c.gap, timestamp.extractLsb' 0 32,
   0#16 ++ timestamp.extractLsb' 32 16, BitVec.ofNat 32 c.used,
   c.snapshot.slotWord 0, c.snapshot.slotWord 1, c.snapshot.slotWord 2, c.snapshot.slotWord 3]

/-- The words of a row: two samples to a word, the spare half the absent code (11.5). -/
def packRow : List Sample → List CapWord
  | [] => []
  | [a] => [absentCode ++ a]
  | a :: b :: rest => (b ++ a) :: packRow rest

/-! ### Reading sweeps and the history -/

/-- The value of a slot in a sweep; the absent code at or beyond the slot count (R26). -/
def Arrival.sample (a : Arrival) (slot : BitVec 8) : Sample :=
  a.slots.getD slot.toNat absentCode

/-- The values of a profile's slots in a sweep, in slot-list order (R89). -/
def Arrival.rowOf (a : Arrival) (p : Profile) : List Sample :=
  p.slots.map a.sample

/-- An absent row of a profile: every sample the absent code (R87, R90). -/
def Profile.absentRow (p : Profile) : List Sample :=
  p.slots.map fun _ => absentCode

/-- The history's row for a sweep, if it is held (R28). -/
def Receiver.rowFor (rx : Receiver) (n : Sweep) : Option Row :=
  match rx.expected with
  | none => none
  | some e =>
    let back := (e - 1 - n).toNat
    if back < rx.history.length then rx.history[rx.history.length - 1 - back]? else none

/-- A history row seen at the positions of a profile's slots, in slot-list order (R29). -/
def Receiver.project (rx : Receiver) (p : Profile) (row : Row) : Row :=
  { row with values := p.slots.map fun x => row.values.getD (rx.historySet.idxOf x) absentCode }

/-- The rows the history holds among t - D, t - 2D, ..., t - pre x D, oldest first (R29, R87). -/
def Receiver.preRows (rx : Receiver) (p : Profile) (t : Sweep) : List Row :=
  ((List.range p.pre).reverse.filterMap fun j => rx.rowFor (t - BitVec.ofNat 16 ((j + 1) * p.decimation))).map
    (rx.project p)

/-- How many pre rows fit so that one further row still does: the largest p with 12 + (p + 1) x r no greater than S (R88). -/
def preRoom (segSize rowSize : Nat) : Nat :=
  (segSize - Config.headerWords) / rowSize - 1

/-- The newest rows that fit (R88). -/
def trimRows (room : Nat) (rows : List Row) : List Row :=
  rows.drop (rows.length - room)

/-! ### Writing -/

/-- Words written into a segment at an offset. -/
def State.writeSegment (s : State) (g : Fin 64) (offset : Nat) (ws : List CapWord) : State :=
  { s with ring := { s.ring with mem := Memory.writeAll s.ring.mem (s.ring.base g + offset) ws } }

/-- A context's fields set. -/
def State.setContext (s : State) (ctx : Fin 4) (o : Option Context) : State :=
  { s with contexts := setAt s.contexts ctx o }

/-- The context after one row of `r` words: a pre row or a post row, a gap row or not (R91). -/
def Context.withRow (c : Context) (pre gap : Bool) : Context :=
  { c with
    pre := if pre then c.pre + 1 else c.pre
    post := if pre then c.post else c.post + 1
    gap := if gap then c.gap + 1 else c.gap
    used := c.used + c.snapshot.rowSize }

/-- One row written after the words already used, with header words 3, 4 and 7 and the segment's fill (R91). -/
def State.writeRow (s : State) (ctx : Fin 4) (c : Context) (values : List Sample) (pre gap : Bool) : State :=
  let d := c.withRow pre gap
  let t := ((s.writeSegment c.segment c.used (packRow values)).writeSegment c.segment 3
    [d.word3, BitVec.ofNat 32 d.gap]).writeSegment c.segment 7 [BitVec.ofNat 32 d.used]
  (t.modifySegment c.segment fun x => { x with fill := d.used }).setContext ctx (some d)

/-- One row written into the capture of context `ctx`, if it is ACTIVE. -/
def State.addRow (s : State) (ctx : Fin 4) (values : List Sample) (pre gap : Bool) : State :=
  match s.contexts[ctx] with
  | none => s
  | some c => s.writeRow ctx c values pre gap

/-! ### Ending a capture -/

/-- The end of a capture with a record (R93), and the end step of the watch it refers to (R75). RESET posts no
CAPTURE_DONE (R96). -/
def State.endCapture (s : State) (ctx : Fin 4) (reason : EndReason) : State :=
  match s.contexts[ctx] with
  | none => s
  | some c =>
    let t := ((s.writeSegment c.segment 0 [c.word0 reason]).complete c.segment reason c.used).bump .capturesDone 1
    let u := if c.snapshot.notify && reason != .reset then t.post .captureDone c.segment.val .segment else t
    (u.setContext ctx none).endStepOf c.watchRef

/-- The end of a capture without a record (R98). -/
def State.dropCapture (s : State) (ctx : Fin 4) : State :=
  match s.contexts[ctx] with
  | none => s
  | some c => (s.setContext ctx none).endStepOf c.watchRef

/-- The order in which captures that end together are taken: open where there are two or more (R107, log 6). -/
def State.endOrder (s : State) : List (Fin 4) × State :=
  if s.activeContexts.length ≤ 1 then (s.activeContexts, s)
  else (arrange 4 s.activeContexts s.draw.1, s.draw.2)

/-- Every ACTIVE context's capture ends with a reason (R95, R96, R97). -/
def State.endAll (s : State) (reason : EndReason) : State :=
  s.endOrder.1.foldl (fun t ctx => t.endCapture ctx reason) s.endOrder.2

/-! ### Opening a capture -/

/-- An opening that obtains no segment: the capture is lost and the watch takes its end step (R85, R70). -/
def State.captureLost (s : State) (w : Fin 32) : State :=
  ((s.bump .capturesLost 1).post .captureLost w.val .watch).modifyWatch w Watch.endStep

/-- The context at the grant of its segment (R85). -/
def Context.opened (w : Fin 32) (p : Fin 8) (prof : Profile) (g : Fin 64) (sequence : BitVec 32)
    (trigger : Option Sweep) : Context :=
  { watchRef := some w, openingWatch := w, profileIndex := p, snapshot := prof, segment := g, sequence := sequence,
    trigger := trigger, pre := 0, post := 0, gap := 0, nextDue := trigger, used := Config.headerWords }

/-- The pre rows of an opening, trimmed, oldest first (R87, R88). -/
def State.openingRows (s : State) (prof : Profile) (trigger : Option Sweep) : List Row :=
  match trigger with
  | none => []
  | some t => trimRows (preRoom s.ring.segSize prof.rowSize) (s.receiver.preRows prof t)

/-- The pre rows written, a MISSING one as a gap row (R87). -/
def State.writePreRows (s : State) (ctx : Fin 4) (rows : List Row) : State :=
  rows.foldl (fun t row => t.addRow ctx row.values true (row.kind == .missing)) s

/-- After a post row: the next due sweep moves on by D, and the capture ends COMPLETE at its last row (R89, R90). -/
def State.afterPostRow (s : State) (ctx : Fin 4) (due : Sweep) : State :=
  match s.contexts[ctx] with
  | none => s
  | some c =>
    let t := s.setContext ctx (some { c with nextDue := some (due + BitVec.ofNat 16 c.snapshot.decimation) })
    if c.post = c.snapshot.post then t.endCapture ctx .complete else t

/-- The trigger row of a fire on an arrival record (R89). -/
def State.triggerRow (s : State) (ctx : Fin 4) (prof : Profile) (o : Option Arrival) : State :=
  match o with
  | none => s
  | some a => (s.addRow ctx (a.rowOf prof) false false).afterPostRow ctx a.number

/-- The opening once its segment is granted (R84 to R89). -/
def State.openGranted (s : State) (ctx : Fin 4) (w : Fin 32) (p : Fin 8) (prof : Profile) (g : Fin 64)
    (trigger : Option Sweep) (o : Option Arrival) : State :=
  let c := Context.opened w p prof g (s.captureSeq + 1) trigger
  let t := ({ s with captureSeq := s.captureSeq + 1 }.setContext ctx (some c)).modifyWatch w
    fun x => { x with state := .fired }
  let u := t.writeSegment g 0 (c.header .inProgress t.events.timeBase)
  (u.writePreRows ctx (u.openingRows prof trigger)).triggerRow ctx prof o

/-- Whether the opening is granted a segment, and the state after it (R85). A profile that is not loaded, which R80 says
no fire finds, opens nothing and is counted as lost (log 17). -/
def State.openCapture (s : State) (ctx : Fin 4) (w : Fin 32) (p : Fin 8) (trigger : Option Sweep)
    (o : Option Arrival) : Bool × State :=
  match s.profiles[p] with
  | none => (false, s.captureLost w)
  | some prof =>
    match s.allocate ctx (s.captureSeq + 1) prof with
    | none => (false, s.captureLost w)
    | some (g, t) => (true, t.openGranted ctx w p prof g trigger o)

/-! ### Arrival records -/

/-- The sweeps an arrival record covers, oldest first, each with whether it is missing (R90). -/
def Arrival.covered (a : Arrival) : List (Sweep × Bool) :=
  ((List.range a.gap).map fun k => (a.number - BitVec.ofNat 16 (a.gap - k), true)) ++ [(a.number, false)]

/-- One covered sweep of an arrival record taken by the capture of a context (R90). -/
def State.coverSweep (s : State) (ctx : Fin 4) (a : Arrival) (x : Sweep × Bool) : State :=
  match s.contexts[ctx] with
  | none => s
  | some c =>
    if c.nextDue = some x.1 then
      if s.ring.segSize < c.used + c.snapshot.rowSize then s.endCapture ctx .truncated
      else
        (s.writeRow ctx c (if x.2 then c.snapshot.absentRow else a.rowOf c.snapshot) false x.2).afterPostRow ctx x.1
    else s

/-- A capture waiting for its trigger sweep takes the arrival's number, and header word 1 is rewritten (R89). -/
def State.learnTrigger (s : State) (ctx : Fin 4) (a : Arrival) : State :=
  match s.contexts[ctx] with
  | none => s
  | some c =>
    match c.trigger with
    | some _ => s
    | none =>
      let d := { c with trigger := some a.number, nextDue := some a.number }
      (s.writeSegment c.segment 1 [d.word1]).setContext ctx (some d)

/-- An arrival record taken by the capture of a context that was ACTIVE before it (R89, R90). -/
def State.takeArrival (s : State) (ctx : Fin 4) (a : Arrival) : State :=
  a.covered.foldl (fun t x => t.coverSweep ctx a x) (s.learnTrigger ctx a)

end Sys2Proof.Machine
end

