-- ==== Sys2Proof/Machine/Firing.lean ====
section
/-! DEFINITION. Watch evaluation and firing (chapter 4), with what a fire asks of the port (R17) and of the line unit
(R153). -/

namespace Sys2Proof.Machine

/-! ### Conditions -/

/-- One sample of a run: satisfied or not (R57, R58). Met when the run count equals Q after a satisfied sample. -/
def Runtime.countRun (r : Runtime) (q : Nat) (satisfied : Bool) : Bool × Runtime :=
  if satisfied then (min (r.run + 1) q == q, { r with run := min (r.run + 1) q }) else (false, { r with run := 0 })

/-- A RISE sample (R59). -/
def Runtime.onRise (r : Runtime) (lo hi v : Sample) : Bool × Runtime :=
  if v.toInt ≤ lo.toInt then (false, { r with latch := .low })
  else if hi.toInt ≤ v.toInt then (r.latch == .low, { r with latch := .high })
  else (false, r)

/-- A FALL sample (R60). -/
def Runtime.onFall (r : Runtime) (lo hi v : Sample) : Bool × Runtime :=
  if hi.toInt ≤ v.toInt then (false, { r with latch := .high })
  else if v.toInt ≤ lo.toInt then (r.latch == .high, { r with latch := .low })
  else (false, r)

/-- A STEP sample (R61). -/
def Runtime.onStep (r : Runtime) (step : Nat) (v : Sample) : Bool × Runtime :=
  match r.previous with
  | none => (false, { r with previous := some v })
  | some u => (decide (step ≤ (v.toInt - u.toInt).natAbs), { r with previous := some v })

/-- What a present sample does; an absent one is not evaluated (R56). -/
def Runtime.onSample (r : Runtime) (v : Sample) (f : Sample → Bool × Runtime) : Bool × Runtime :=
  if v = absentCode then (false, r) else f v

/-- Whether an arrival record meets the condition of a watch, and the runtime after it (R56 to R61). EVENT and LINE
watches are not reached by arrival records (R54). -/
def Contents.onArrival (c : Contents) (r : Runtime) (a : Arrival) : Bool × Runtime :=
  match c.condition with
  | .above slot hi => r.onSample (a.sample slot) fun v => r.countRun c.qualifier (decide (hi.toInt < v.toInt))
  | .below slot lo => r.onSample (a.sample slot) fun v => r.countRun c.qualifier (decide (v.toInt < lo.toInt))
  | .inside slot lo hi =>
    r.onSample (a.sample slot) fun v =>
      r.countRun c.qualifier (decide (lo.toInt ≤ v.toInt ∧ v.toInt ≤ hi.toInt))
  | .outside slot lo hi =>
    r.onSample (a.sample slot) fun v =>
      r.countRun c.qualifier (decide (v.toInt < lo.toInt ∨ hi.toInt < v.toInt))
  | .rise slot lo hi => r.onSample (a.sample slot) fun v => r.onRise lo hi v
  | .fall slot lo hi => r.onSample (a.sample slot) fun v => r.onFall lo hi v
  | .step slot step => r.onSample (a.sample slot) fun v => r.onStep step v
  | .mark mask => r.countRun c.qualifier (a.mark &&& mask != 0)
  | .event _ => (false, r)
  | .line _ _ => (false, r)

/-- The last fire sweep of the entry at an index; an EMPTY one has none (R39). -/
def State.lastFireOf (s : State) (i : Fin 32) : Option Sweep :=
  match s.watches[i] with
  | none => none
  | some w => w.runtime.lastFire

/-- The precondition test against the reference sweep (R64, R66). -/
def State.preconditionHolds (s : State) (c : Contents) (reference : Option Sweep) : Bool :=
  match c.precondition with
  | none => true
  | some p =>
    match reference, s.lastFireOf p.watch with
    | some n, some f => decide ((n - f).toNat < p.window)
    | _, _ => false

/-! ### What a fire asks for -/

/-- A mark request: the bit is set while the link is UP, else the request is discarded (R17). -/
def State.requestMark (s : State) (o : Option (Fin 16)) : State :=
  match o with
  | none => s
  | some m =>
    if s.port.link = .up then { s with port := { s.port with markWord := s.port.markWord ||| markBit m } } else s

/-- A pulse request on one line: a line at rest starts its pulse, a pulsing one absorbs the request (R153). -/
def startPulse (asked : Bool) (t : Timer) : Timer :=
  match t with
  | none => if asked then some Config.pulseTicks else none
  | some k => some k

/-- A pulse request (R153). -/
def State.requestPulse (s : State) (p : PulseLines) : State :=
  { s with lines := { s.lines with tout0 := startPulse p.l0 s.lines.tout0, tout1 := startPulse p.l1 s.lines.tout1 } }

/-- The claim of a context: the lowest-indexed IDLE one, or none (R67). -/
def State.idleContext (s : State) : Option (Fin 4) :=
  (List.finRange 4).find? fun c => s.contexts[c].isNone

/-! ### Fires -/

/-- What became of a fire: refused, or taken with the context of a capture that was opened, or with its capture lost. -/
inductive FireOutcome where
  | refused
  | taken (context : Option (Fin 4)) (lost : Bool)
  deriving DecidableEq, Repr

/-- A refused fire's runtime: the refusal count up, stopping at 65535, and the run count 0 (R68). -/
def Watch.refusedOnce (w : Watch) : Watch :=
  { w with runtime := { w.runtime with refusals := min (w.runtime.refusals + 1) 65535, run := 0 } }

/-- A refused fire (R68). -/
def State.refuseFire (s : State) (i : Fin 32) : State :=
  ((s.bump .firesRefused 1).modifyWatch i Watch.refusedOnce).post .watchRefused i.val .watch

/-- The runtime of a fire that takes place: last fire sweep and fires remaining (R69). -/
def Watch.firedOnce (w : Watch) (reference : Option Sweep) : Watch :=
  { w with runtime := { w.runtime with lastFire := reference, firesLeft := w.runtime.firesLeft.map (· - 1) } }

/-- A fire that takes place, less its notice and its capture (R69). -/
def State.takeFire (s : State) (i : Fin 32) (c : Contents) (reference : Option Sweep) : State :=
  (((s.bump .fires 1).modifyWatch i (·.firedOnce reference)).requestMark c.markCode).requestPulse c.pulse

/-- The WATCH_FIRED notice, when action notify is yes (R69). -/
def State.notifyFire (s : State) (i : Fin 32) (c : Contents) : State :=
  if c.notify then s.post .watchFired i.val .watch else s

/-- Whether the notice of a fire is taken before its capture's opening. R69 gives the actions no order; it shows only
where there are both, and is an open choice there (log 6). -/
def State.notifyFirst (s : State) (c : Contents) : Bool × State :=
  if c.notify then (s.draw.1 % 2 == 0, s.draw.2) else (true, s)

/-- The notice and the opening of a fire with an action profile, in either order (R69, R70). -/
def State.fireCapture (s : State) (i : Fin 32) (c : Contents) (p : Fin 8) (ctx : Fin 4) (reference : Option Sweep)
    (o : Option Arrival) : Bool × State :=
  let first := (s.notifyFirst c).1
  let t := (s.notifyFirst c).2
  if first then (t.notifyFire i c).openCapture ctx i p reference o
  else
    let r := t.openCapture ctx i p reference o
    (r.1, r.2.notifyFire i c)

/-- The fire of watch `i`, on an arrival record or on another occasion (R67 to R71). The reference sweep is the trigger
sweep of its capture too (R70). -/
def State.fire (s : State) (i : Fin 32) (reference : Option Sweep) (o : Option Arrival) : FireOutcome × State :=
  match s.watches[i] with
  | none => (.refused, s)
  | some w =>
    match w.contents.profile with
    | none => (.taken none false, ((s.takeFire i w.contents reference).notifyFire i w.contents).modifyWatch i Watch.endStep)
    | some p =>
      match s.idleContext with
      | none => (.refused, s.refuseFire i)
      | some ctx =>
        let r := (s.takeFire i w.contents reference).fireCapture i w.contents p ctx reference o
        (.taken (if r.1 then some ctx else none) (!r.1), r.2)

/-- A met condition becomes a fire when the precondition is satisfied (R64, R65). -/
def State.fireIf (s : State) (i : Fin 32) (c : Contents) (met : Bool) (reference : Option Sweep) (o : Option Arrival) :
    State :=
  if met && s.preconditionHolds c reference then (s.fire i reference o).2 else s

/-! ### Occasions -/

/-- One watch settled on an arrival record by the state it had when the record was handed on: an ARMED one is evaluated,
a HOLDOFF one counts (R38, R55, R72). -/
def State.settle (s : State) (before : Vector (Option Watch) 32) (a : Arrival) (i : Fin 32) : State :=
  match before[i] with
  | none => s
  | some w =>
    match w.state with
    | .armed =>
      let r := w.contents.onArrival w.runtime a
      (s.modifyWatch i fun x => { x with runtime := r.2 }).fireIf i w.contents r.1 (some a.number) (some a)
    | .holdoff => s.modifyWatch i (·.countHoldoff a.gap)
    | .idle | .fired | .spent => s

/-- One watch on an occasion that is no arrival record: an ARMED one whose condition the occasion meets (R54, R62). -/
def State.settleOccasion (s : State) (meets : Condition → Bool) (i : Fin 32) : State :=
  match s.watches[i] with
  | none => s
  | some w =>
    if w.state = .armed then s.fireIf i w.contents (meets w.contents.condition) s.receiver.expected none else s

/-- An occasion that is no arrival record, over the watches in ascending index (R55). -/
def State.occasion (s : State) (meets : Condition → Bool) : State :=
  (List.finRange 32).foldl (fun t i => t.settleOccasion meets i) s

/-- The contexts whose capture takes the record right before watch `k` is settled, or after the last for 32, by the open
choice `x` (R25, R67, log 6). -/
def contextsAt (x : Nat) (active : List (Fin 4)) (k : Nat) : List (Fin 4) :=
  (arrange 4 active x).filter fun c => x / 24 / 33 ^ c.val % 33 == k

/-- The captures in flight that take the record at one place of the order. -/
def State.takeAll (s : State) (a : Arrival) (cs : List (Fin 4)) : State :=
  cs.foldl (fun t c => t.takeArrival c a) s

/-- The hand-on of an arrival record to the watch table and the capture engine (R25, R54, R55, R90). -/
def State.handOn (s : State) (a : Arrival) : State :=
  let before := s.watches
  match s.activeContexts with
  | [] => (List.finRange 32).foldl (fun t i => t.settle before a i) s
  | active@(_ :: _) =>
    let x := s.draw.1
    ((List.finRange 32).foldl (fun t i => (t.takeAll a (contextsAt x active i.val)).settle before a i) s.draw.2).takeAll
      a (contextsAt x active 32)

end Sys2Proof.Machine
end

