-- ==== Sys2Proof/Machine/SweepReceiver.lean ====
section
/-! DEFINITION. The sweep receiver (chapter 2): the sweep sequence, the history rows, the hand-on. -/

namespace Sys2Proof.Machine

/-- The class of an accepted sweep (R21, R22): a start, in sequence or after `d` missing sweeps, or a resync. -/
inductive SweepClass where
  | start
  | gap (d : Nat)
  | resync
  deriving DecidableEq, Repr

/-- The classification of sweep `n` (R21, R22). -/
def Receiver.classify (rx : Receiver) (n : Sweep) : SweepClass :=
  match rx.expected with
  | none => .start
  | some e => if (n - e).toNat < 1024 then .gap (n - e).toNat else .resync

/-- A RECEIVED row (R28). -/
def Receiver.receivedRow (rx : Receiver) (a : Arrival) : Row :=
  { kind := .received, values := rx.historySet.map a.sample }

/-- A MISSING row (R28). -/
def Receiver.missingRow (rx : Receiver) : Row :=
  { kind := .missing, values := rx.historySet.map fun _ => absentCode }

/-- Rows appended, the oldest dropped past 1024 (R28). -/
def appendRows (old new : List Row) : List Row :=
  (old ++ new).drop ((old ++ new).length - Config.maxHistory)

/-- The receiver after the rows of an arrival record: the MISSING rows of its gap, then its own row; the next number is
expected (R21, R23, R28). -/
def Receiver.take (rx : Receiver) (a : Arrival) : Receiver :=
  { rx with
    expected := some (a.number + 1)
    history := appendRows rx.history (List.replicate a.gap rx.missingRow ++ [rx.receivedRow a]) }

/-- The rows appended and the record handed on (R25). -/
def State.takeSweep (s : State) (a : Arrival) : State :=
  { s with receiver := s.receiver.take a }.handOn a

/-- The resync's first three steps: RESYNCS, the history emptied, the report (R24, R74, R95). -/
def State.resync (s : State) : State :=
  let t := s.bump .resyncs 1
  ({ t with receiver := { t.receiver with history := [] } }.breakWatches).endAll .sequence

/-- An accepted sweep (R20 to R25). -/
def State.acceptSweep (s : State) (n : Sweep) (mark : Word) (slots : List Sample) : State :=
  match s.receiver.classify n with
  | .start => s.takeSweep { number := n, gap := 0, mark := mark, slots := slots }
  | .gap d => (s.bump .missedSweeps d).takeSweep { number := n, gap := d, mark := mark, slots := slots }
  | .resync => s.resync.takeSweep { number := n, gap := 0, mark := mark, slots := slots }

/-- The expected number absent and the history emptied; the history set is kept (R31, R32). -/
def State.breakReceiver (s : State) : State :=
  { s with receiver := { s.receiver with expected := none, history := [] } }

end Sys2Proof.Machine
end

