-- ==== Sys2Proof/Machine/EventUnit.lean ====
section
/-! DEFINITION. The event unit and the line unit (chapter 8). -/

namespace Sys2Proof.Machine

/-! ### Events -/

/-- Whether an applied event meets a watch's condition (R62). -/
def Condition.meetsEvent (code : Fin 16) : Condition → Bool
  | .event c => c == code
  | .above _ _ | .below _ _ | .inside _ _ _ | .outside _ _ _ | .rise _ _ _ | .fall _ _ _ | .step _ _ | .mark _
  | .line _ _ => false

/-- Whether an edge meets a watch's condition (R62). -/
def Condition.meetsEdge (line : Line) (edge : Edge) : Condition → Bool
  | .line l e => l == line && e == edge
  | .above _ _ | .below _ _ | .inside _ _ _ | .outside _ _ _ | .rise _ _ _ | .fall _ _ _ | .step _ _ | .mark _
  | .event _ => false

/-- The time base set (R147, R150). -/
def State.setTimeBase (s : State) (v : BitVec 48) : State :=
  { s with events := { s.events with timeBase := v } }

/-- Steps 1 to 4 of an application, on an enabled entry (R147). -/
def State.applyEntry (s : State) (e : EventEntry) : State :=
  if e.enable then
    let t := (s.disarmGroup e.disarm).armGroup e.arm
    (if e.zeroTime then t.setTimeBase 0 else t).requestPulse e.pulse
  else s

/-- The application of an event (R147). -/
def State.applyEvent (s : State) (code : Fin 16) : State :=
  (s.applyEntry s.events.table[code]).occasion (Condition.meetsEvent code)

/-- An event arrival (R142): applied at once, entered in the pending list, or dropped. -/
def State.eventArrives (s : State) (code : Fin 16) (immediate : Bool) : State :=
  if immediate || s.params.eventDelay == 0 then s.applyEvent code
  else if s.events.waiting.length < Config.maxPending then
    { s with events := { s.events with
        waiting := s.events.waiting ++ [{ code := code, ticks := s.params.eventDelay }] } }
  else (s.bump .eventsDropped 1).post .eventDropped code.val .code

/-- The delay timer of the entry at a place reaches its expiry (R143). -/
def State.eventExpires (s : State) (place : Nat) : State :=
  match s.events.waiting[place]? with
  | none => s
  | some w => { s with events := { s.events with waiting := s.events.waiting.eraseIdx place } }.applyEvent w.code

/-! ### Trigger inputs -/

/-- The detector of a line. -/
def Lines.detector (l : Lines) : Line → Detector
  | .l0 => l.tin0
  | .l1 => l.tin1

/-- The detector of a line replaced. -/
def Lines.setDetector (l : Lines) (line : Line) (d : Detector) : Lines :=
  match line with
  | .l0 => { l with tin0 := d }
  | .l1 => { l with tin1 := d }

/-- The settled level that a pin's level would be. -/
def settledAt (level : Bool) : Settled :=
  if level then .high else .low

/-- A change of level at a running detector: the candidate timer starts, restarts or stops (R151). A level that is the
pin's already is no change. -/
def Detector.levelChange (d : Detector) (level : Bool) : Detector :=
  if d.level = level then d
  else
    { d with
      level := level
      timer := if d.settled = settledAt level then none else some Config.candidateTicks }

/-- A change of level on a trigger input. While RESETn is low the detector does not run, and only the pin's level
changes (R154). -/
def State.levelChanges (s : State) (line : Line) (level : Bool) : State :=
  let d := s.lines.detector line
  let d' := if s.resetLow then { d with level := level } else d.levelChange level
  { s with lines := s.lines.setDetector line d' }

/-- The edge reported when the level of a detector becomes settled (R151). -/
def Detector.edge (d : Detector) : Option Edge :=
  match d.settled, d.level with
  | .low, true => some .rising
  | .high, false => some .falling
  | _, _ => none

/-- A detector after its candidate timer has run out: the new level is the settled one (R151). -/
def Detector.settle (d : Detector) : Detector :=
  { d with settled := settledAt d.level, timer := none }

/-- The candidate timer of a line runs out; a reported edge is an occasion (R151, R152). -/
def State.candidateRunsOut (s : State) (line : Line) : State :=
  let d := s.lines.detector line
  if d.timer.isSome then
    let t := { s with lines := s.lines.setDetector line d.settle }
    match d.edge with
    | none => t
    | some e => t.occasion (Condition.meetsEdge line e)
  else s

/-! ### Mark outputs -/

/-- The pulse timer of a mark output runs out: the line is AT REST (R153). -/
def State.pulseRunsOut (s : State) (line : Line) : State :=
  match line with
  | .l0 => { s with lines := { s.lines with tout0 := none } }
  | .l1 => { s with lines := { s.lines with tout1 := none } }

end Sys2Proof.Machine
end

