-- ==== Sys2Proof/Machine/NoticeUnit.lean ====
section
/-! DEFINITION. The notice unit (chapter 7) but for the posting, which stands in Machine/Ops.lean: sending, resending,
expiry, acknowledgement, change of sink. -/

namespace Sys2Proof.Machine

/-- The code of a notice kind (R188). -/
def NoticeKind.code : NoticeKind → BitVec 4
  | .restart => 0
  | .link => 1
  | .captureLost => 2
  | .ringLow => 3
  | .leaseLost => 4
  | .watchRefused => 5
  | .eventDropped => 6
  | .captureDone => 7
  | .watchFired => 8

/-- SENT and due. -/
def Notice.isDue (n : Notice) : Bool :=
  match n.sent with
  | none => false
  | some x => x.due

/-- The stamp of a SENT entry's first send; 0 for a QUEUED one, which is never asked. -/
def Notice.stamp (n : Notice) : Nat :=
  match n.sent with
  | none => 0
  | some x => x.order

/-- SENT under this number. -/
def Notice.bears (number : BitVec 8) (n : Notice) : Bool :=
  match n.sent with
  | none => false
  | some x => x.number == number

/-- The place of the due entry first sent earliest (R130). -/
def duePlace (q : List Notice) : Option Nat :=
  match (q.filter Notice.isDue).map Notice.stamp with
  | [] => none
  | x :: rest => q.findIdx? fun n => n.isDue && n.stamp == rest.foldl min x

/-- The place of the QUEUED entry of the highest priority, the oldest among those of it (R130). -/
def queuedPlace (q : List Notice) : Option Nat :=
  match (q.filter Notice.queued).map (·.kind.priority) with
  | [] => none
  | x :: rest => q.findIdx? fun n => n.queued && n.kind.priority == rest.foldl max x

/-- The first number from `next` on, counting upward modulo 256, that no SENT entry holds (R131). -/
def freeNumber (next : BitVec 8) (q : List Notice) : BitVec 8 :=
  match (List.range 256).find? fun k => !(q.any (Notice.bears (next + BitVec.ofNat 8 k))) with
  | none => next
  | some k => next + BitVec.ofNat 8 k

/-- The ticks a resend timer is started with (R131, R133). -/
def State.resendTicks (s : State) : Nat :=
  s.params.noticeResend * Config.resendUnitTicks

/-- The NOTICE frame of an entry with its number (R132, R188). -/
def State.noticeFrame (s : State) (n : Notice) (number : BitVec 8) : List Word :=
  withCrc ([headerWord .notice (BitVec.ofNat 6 s.params.noticeSink) s.strap, number ++ 0#4 ++ n.kind.code,
    noticeFlags s.notices.overflow n, BitVec.ofNat 16 n.subject, BitVec.ofNat 16 n.repeats] ++ paddingWords 10)

/-- A SENT entry resent: resends done up, timer started, due no (R133). -/
def Sent.resent (x : Sent) (ticks : Nat) : Sent :=
  { x with resends := x.resends + 1, timer := some ticks, due := false }

/-- The unit after the resend at a place; the overflow latch is cleared once the frame is made (R132, R133). -/
def State.resendAt (s : State) (place : Nat) : State :=
  { s with notices := { s.notices with
      queue := s.notices.queue.modify place fun n => { n with sent := n.sent.map (·.resent s.resendTicks) }
      overflow := false } }

/-- The unit after the first send at a place (R131, R132). -/
def State.sendAt (s : State) (place : Nat) (number : BitVec 8) : State :=
  { s with notices :=
      { queue := s.notices.queue.modify place fun n =>
          { n with sent := some { number := number, resends := 0, timer := some s.resendTicks, due := false,
                                  order := s.notices.sends } }
        nextNumber := number + 1
        overflow := false
        sends := s.notices.sends + 1 } }

/-- The number a SENT entry bears. -/
def Notice.number (n : Notice) : BitVec 8 :=
  match n.sent with
  | none => 0
  | some x => x.number

/-- The offer of an IDLE (R130): the NOTICE frame that takes its place, or none, and the unit after it. -/
def State.offer (s : State) : Option (List Word) × State :=
  match duePlace s.notices.queue with
  | some k =>
    match s.notices.queue[k]? with
    | none => (none, s)
    | some n => (some (s.noticeFrame n n.number), s.resendAt k)
  | none =>
    if sentCount s.notices.queue < Config.maxSent then
      match queuedPlace s.notices.queue with
      | none => (none, s)
      | some k =>
        match s.notices.queue[k]? with
        | none => (none, s)
        | some n =>
          let number := freeNumber s.notices.nextNumber s.notices.queue
          (some (s.noticeFrame n number), s.sendAt k number)
    else (none, s)

/-- A SENT entry becomes due (R133). -/
def Sent.runOut (x : Sent) : Sent :=
  { x with timer := none, due := true }

/-- The resend timer of the SENT entry with a number runs out (R133); nothing runs out where no such timer runs. -/
def State.resendRunsOut (s : State) (number : BitVec 8) : State :=
  match s.notices.queue.findIdx? (Notice.bears number) with
  | none => s
  | some k =>
    match (s.notices.queue[k]?).bind Notice.sent with
    | none => s
    | some x =>
      match x.timer with
      | none => s
      | some _ =>
        if s.params.noticeLimit ≤ x.resends then
          (s.setQueue (s.notices.queue.eraseIdx k)).bump .noticesExpired 1
        else s.setQueue (s.notices.queue.modify k fun n => { n with sent := n.sent.map Sent.runOut })

/-- One number of an ACK: the SENT entry that bears it is removed (R135). -/
def ackOne (q : List Notice) (number : BitVec 8) : List Notice :=
  q.eraseP (Notice.bears number)

/-- A SENT entry returned to QUEUED (R136). -/
def Notice.requeued (n : Notice) : Notice :=
  { n with sent := none }

/-- A QUEUED entry merged into an older one of the same kind and subject, or added at the young end (R136). -/
def mergeInto (q : List Notice) (n : Notice) : List Notice :=
  match q.findIdx? fun m => m.queued && n.sameAs m with
  | none => q ++ [n]
  | some k => q.modify k fun m => { m with repeats := min (m.repeats + n.repeats) 255 }

/-- The queue at a change of NOTICE_SINK: every entry QUEUED, those of one kind and subject merged (R136). -/
def requeue (q : List Notice) : List Notice :=
  (q.map Notice.requeued).foldl mergeInto []

end Sys2Proof.Machine
end

