-- ==== Sys2Proof/Machine/LinkPort.lean ====
section
/-! DEFINITION. The loop port's own operations (chapter 1): the consecutive counts, the entries to UP, HUNT and DOWN, the
departure from UP, and the loop reset of every block. -/

namespace Sys2Proof.Machine

/-- A valid frame counted: valid count up to 4, damaged count 0, silence timer restarted (R4). -/
def Port.countValid (p : Port) : Port :=
  { p with validCount := min (p.validCount + 1) 4, damagedCount := 0, silence := some Config.silenceTicks }

/-- A damaged frame counted: damaged count up to 8, valid count 0 (R4). -/
def Port.countDamaged (p : Port) : Port :=
  { p with damagedCount := min (p.damagedCount + 1) 8, validCount := 0 }

/-- Entry to UP: both counts 0; a set down-seen latch posts LINK at an addressed node and is cleared (R4, R7). -/
def State.enterUp (s : State) : State :=
  let t := { s with port := { s.port with link := .up, validCount := 0, damagedCount := 0, downSeen := false } }
  if s.port.downSeen && s.addressed then t.post .link 0 .nothing else t

/-- The departure from UP: the pending mark word is discarded, and at an addressed node the receiver, the watch table and
the capture engine are told (R8, R18, R31, R74, R95). -/
def State.departUp (s : State) : State :=
  let t := { s with port := { s.port with markWord := 0 } }
  if s.addressed then ((t.breakReceiver).breakWatches).endAll .link else t

/-- Entry to HUNT from UP: both counts 0, the silence timer as it stands (R4), and the departure (R8). -/
def State.upToHunt (s : State) : State :=
  { s with port := { s.port with link := .hunt, validCount := 0, damagedCount := 0 } }.departUp

/-- Entry to HUNT from DOWN (R3). -/
def State.downToHunt (s : State) : State :=
  { s with port := { s.port with
      link := .hunt, validCount := 0, damagedCount := 0, silence := some Config.silenceTicks } }

/-- What every entry to DOWN from HUNT or UP does (R5). -/
def State.markDown (s : State) : State :=
  let t := s.bump .linkDowns 1
  { t with port := { t.port with link := .down, validCount := 0, damagedCount := 0, silence := none, downSeen := true } }

/-- Entry to DOWN, with the departure where the link leaves UP (R5, R8); none from DOWN itself. -/
def State.enterDown (s : State) : State :=
  match s.port.link with
  | .down => s
  | .hunt => s.markDown
  | .up => s.markDown.departUp

/-- A valid frame that arrives in HUNT: forwarded unchanged, counted, and the fourth in a row takes the link to UP
(R4, R11). -/
def State.huntValid (s : State) (ws : List Word) : State :=
  let t := { s.emit (.frame ws) with port := (s.emit (.frame ws)).port.countValid }
  if t.port.validCount = 4 then t.enterUp else t

/-- A damaged frame that arrives in HUNT or UP: replaced, counted, and the eighth in a row takes UP to HUNT (R4, R6). -/
def State.damagedArrives (s : State) (ws : List Word) : State :=
  let t := (s.emit (.frame (idleFrame true (damagedLength ws.length)))).bump .damagedFrames 1
  let u := { t with port := t.port.countDamaged }
  if u.port.link = .up ∧ u.port.damagedCount = 8 then u.upToHunt else u

/-! ### Loop reset -/

/-- The notice unit at a loop reset (R138). -/
def State.resetNotices (s : State) : State :=
  { s with notices := { s.notices with queue := [], nextNumber := 0, overflow := false } }

/-- The loop reset of every block (R10, R14, R32, R51, R96, R121, R138, R155, R174). -/
def State.loopReset (s : State) : State :=
  let a := { s with port := { s.port with markWord := 0 } }
  let b := (((a.breakReceiver).endAll .reset).resetWatches).readingReturn
  let c := b.resetNotices
  { c with
    events := { c.events with waiting := [] }
    session := { origins := [], holder := none, leaseTimer := none } }

end Sys2Proof.Machine
end

