-- ==== Sys2Proof/Machine/Reply.lean ====
section
/-! DEFINITION. What every request entry shares: the call, the reply, the named failing field, and the codes of R190 for
the enumerations that several responses report. -/

namespace Sys2Proof.Machine

/-- A request as its entry sees it: the origin, the reply room and the body words (R157). -/
structure Call where
  origin : Addr
  room : Nat
  body : List Word
  deriving DecidableEq, Repr

/-- What an entry answers: the status, the flag SHORT, and the body items (R159). -/
structure Reply where
  status : Status
  short : Bool
  body : List Word
  deriving DecidableEq, Repr

/-- OK with body items. -/
def Reply.ok (body : List Word) : Reply := { status := .ok, short := false, body := body }

/-- Another status with body items. -/
def Reply.other (st : Status) (body : List Word) : Reply := { status := st, short := false, body := body }

/-- RANGE with the failing field named: request kind code and check. The word is a free value (log 10). -/
def Reply.rangeAt (kind check : Nat) : Reply :=
  { status := .range, short := false, body := [Config.failingField kind check] }

/-- A parameter that must be readable at a check; the check's number where it is not. -/
def needAt {α : Type} (check : Nat) (o : Option α) : Except Nat α :=
  match o with
  | none => .error check
  | some x => .ok x

/-- A parameter that must be readable and in range at a check. -/
def needThat {α : Type} (check : Nat) (o : Option α) (p : α → Bool) : Except Nat α :=
  match o with
  | none => .error check
  | some x => if p x then .ok x else .error check

/-- A condition that must hold at a check. -/
def needTrue (check : Nat) (b : Bool) : Except Nat Unit :=
  if b then .ok () else .error check

/-- The code of a watch's state: EMPTY 0 to SPENT 5 (R190). -/
def watchCode (o : Option Watch) : Nat :=
  match o with
  | none => 0
  | some w =>
    match w.state with
    | .idle => 1
    | .armed => 2
    | .fired => 3
    | .holdoff => 4
    | .spent => 5

/-- The code of a segment's state: FREE 0 to READING 3 (R189). -/
def segmentCode (o : Option Segment) : Nat :=
  match o with
  | none => 0
  | some x =>
    match x.state with
    | .filling _ => 1
    | .full => 2
    | .reading => 3

/-- The state of a watch as the state stands. -/
def State.watchCode (s : State) (i : Fin 32) : Nat := Machine.watchCode s.watches[i]

/-- The lease's time remaining in units of 10 ms, rounded up; 0 stands for absent (R165, R190). -/
def State.timeRemaining (s : State) : Nat :=
  match s.session.holder, s.session.leaseTimer with
  | some _, some t => (t + (Config.leaseUnitTicks - 1)) / Config.leaseUnitTicks
  | _, _ => 0

/-- The lease holder and the time remaining, as DENIED, CLAIM, RENEW and TAKEOVER report them (R162, R167). -/
def State.leaseItems (s : State) : List Word :=
  itemAddrOpt s.session.holder ++ itemSmall s.timeRemaining

end Sys2Proof.Machine
end

