-- ==== Sys2Proof/Machine/CaptureRequests.lean ====
section
/-! DEFINITION. The requests of chapters 2 and 5: SET HISTORY, LOAD PROFILE, CLEAR PROFILE, GET PROFILE, ABORT CAPTURE and
GET CONTEXTS. -/

namespace Sys2Proof.Machine

/-- The first slot of a profile that asks for pre rows which a history set lacks (R30, R79). -/
def Profile.lacks (p : Profile) (set : List (BitVec 8)) : Option (BitVec 8) :=
  if p.pre = 0 then none else p.slots.find? fun x => !(set.contains x)

/-- What one loaded profile lacks of a history set. -/
def State.profileLacks (s : State) (set : List (BitVec 8)) (i : Fin 8) : Option (Fin 8 × BitVec 8) :=
  match s.profiles[i] with
  | none => none
  | some p => (p.lacks set).map fun x => (i, x)

/-- The lowest loaded profile that a history set would break, with the slot it lacks (R30). -/
def State.historyConflict (s : State) (set : List (BitVec 8)) : Option (Fin 8 × BitVec 8) :=
  (List.finRange 8).findSome? (s.profileLacks set)

/-- The list of SET HISTORY: none where the count is over 32, a word is missing or a slot appears twice (R30). -/
def readHistorySet (b : List Word) : Option (List (BitVec 8)) :=
  match paramSmall b 0 with
  | none => none
  | some k =>
    if k ≤ 32 then
      match paramSlots b 1 k with
      | none => none
      | some l => if l.Nodup then some l else none
    else none

/-- SET HISTORY (R30). -/
def doSetHistory (c : Call) (s : State) : Reply × State :=
  match readHistorySet c.body with
  | none => (.other .range (itemSlots s.receiver.historySet), s)
  | some l =>
    match s.historyConflict l with
    | some (i, x) => (.other .conflict (itemSmall i.val ++ itemSmall x.toNat ++ itemSlots s.receiver.historySet), s)
    | none =>
      (.ok (itemSlots l ++ itemSmall 0), { s with receiver := { s.receiver with historySet := l, history := [] } })

/-! ### Profiles -/

/-- REFUSE or OVERWRITE. -/
def readPolicy (n : Nat) : Option Policy :=
  match n with
  | 0 => some .refuse
  | 1 => some .overwrite
  | _ => none

/-- The profile fields of LOAD PROFILE: 1 slot count, then the slots two to a word, then pre, post (two words),
decimation, policy, auto-release, notify (R77, R190, log 12); the checks of R78. -/
def readProfile (b : List Word) : Except Nat Profile := do
  let k ← needThat 20 (paramSmall b 1) fun n => n != 0 && n ≤ 16
  let slots ← needThat 30 (paramSlots b 2 k) fun l => decide l.Nodup
  let at' := 2 + (k + 1) / 2
  let pre ← needThat 40 (paramSmall b at') fun n => n ≤ 1024
  let post ← needThat 50 (paramFull b (at' + 1)) fun n => n != 0
  let decimation ← needThat 60 (paramSmall b (at' + 3)) fun n => n != 0 && n ≤ 256
  needTrue 70 (decide (pre * decimation ≤ 1024))
  let policy ← needAt 80 ((paramEnum b (at' + 4)).bind readPolicy)
  let auto ← needAt 81 (paramYesNo b (at' + 5))
  let notify ← needAt 82 (paramYesNo b (at' + 6))
  return { slots := slots, pre := pre, post := post, decimation := decimation, policy := policy, autoRelease := auto,
           notify := notify }

/-- Check 1, then the rest (R78). -/
def readLoadProfile (b : List Word) : Except Nat (Fin 8 × Profile) := do
  let i ← needAt 10 ((paramSmall b 0).bind (indexBelow 8))
  return (i, ← readProfile b)

/-- A profile entry replaced. -/
def State.setProfile (s : State) (i : Fin 8) (o : Option Profile) : State :=
  { s with profiles := setAt s.profiles i o }

/-- LOAD PROFILE (R78, R79). -/
def doLoadProfile (c : Call) (s : State) : Reply × State :=
  match readLoadProfile c.body with
  | .error n => (.rangeAt 15 n, s)
  | .ok (i, p) =>
    match p.lacks s.receiver.historySet with
    | some x => (.other .conflict (itemSmall x.toNat), s)
    | none => (.ok (itemSmall i.val), s.setProfile i (some p))

/-- The profile index of a request, or RANGE (R80, R81). -/
def withProfile (c : Call) (s : State) (f : Fin 8 → Reply × State) : Reply × State :=
  match (paramSmall c.body 0).bind (indexBelow 8) with
  | none => (.other .range [], s)
  | some i => f i

/-- The watch names a profile. -/
def Watch.names (i : Fin 8) (w : Watch) : Bool := w.contents.profile == some i

/-- ARMED, FIRED or HOLDOFF: the states that hold a profile against CLEAR PROFILE (R80). -/
def WatchState.holds : WatchState → Bool
  | .armed | .fired | .holdoff => true
  | .idle | .spent => false

/-- The lowest watch that holds a profile (R80). -/
def State.profileHolder (s : State) (i : Fin 8) : Option (Fin 32) :=
  (List.finRange 32).find? fun k =>
    match s.watches[k] with
    | none => false
    | some w => w.names i && w.state.holds

/-- CLEAR PROFILE (R80). -/
def doClearProfile (c : Call) (s : State) : Reply × State :=
  withProfile c s fun i =>
    match s.profiles[i] with
    | none => (.other .empty [], s)
    | some _ =>
      match s.profileHolder i with
      | some k => (.other .conflict (itemSmall k.val ++ itemSmall (s.watchCode k)), s)
      | none => (.ok [], s.setProfile i none)

/-- The watches in any state but EMPTY that name a profile (R81). -/
def State.watchesNaming (s : State) (i : Fin 8) : Nat :=
  (List.finRange 32).countP fun k =>
    match s.watches[k] with
    | none => false
    | some w => w.names i

/-- The ACTIVE contexts whose snapshot came from a profile index (R81). -/
def State.contextsFrom (s : State) (i : Fin 8) : Nat :=
  (List.finRange 4).countP fun k =>
    match s.contexts[k] with
    | none => false
    | some c => c.profileIndex == i

/-- The code of a policy. -/
def Policy.code : Policy → Nat
  | .refuse => 0
  | .overwrite => 1

/-- The items of a profile, in the order of R77. -/
def Profile.items (p : Profile) : List Word :=
  itemSlots p.slots ++ itemSmall p.pre ++ itemFull (BitVec.ofNat 16 p.post) ++ itemSmall p.decimation ++
    itemSmall p.policy.code ++ itemYesNo p.autoRelease ++ itemYesNo p.notify

/-- GET PROFILE (R81). -/
def doGetProfile (c : Call) (s : State) : Reply × State :=
  withProfile c s fun i =>
    match s.profiles[i] with
    | none => (.other .empty [], s)
    | some p =>
      (.ok (itemSmall i.val ++ p.items ++ itemSmall p.rowSize ++ itemSmall (s.watchesNaming i) ++
        itemSmall (s.contextsFrom i)), s)

/-! ### Contexts -/

/-- ABORT CAPTURE (R94). -/
def doAbortCapture (c : Call) (s : State) : Reply × State :=
  match (paramSmall c.body 0).bind (indexBelow 4) with
  | none => (.other .range [], s)
  | some k =>
    match s.contexts[k] with
    | none => (.other .state (itemSmall 0), s)
    | some x =>
      (.ok (itemSmall k.val ++ itemSmall x.segment.val ++ item32 x.sequence ++ itemSmallOpt (x.watchRef.map Fin.val) ++
        itemSmall x.pre ++ itemFull (BitVec.ofNat 16 x.post) ++ itemNat32 x.gap ++ itemNat32 x.used),
       s.endCapture k .aborted)

/-- The items of one context (R99). -/
def contextItems (o : Option Context) : List Word :=
  match o with
  | none => itemSmall 0
  | some x =>
    itemSmall 1 ++ itemSmallOpt (x.watchRef.map Fin.val) ++ itemSmall x.openingWatch.val ++
      itemSmall x.profileIndex.val ++ itemSmall x.snapshot.slots.length ++ itemSmall x.snapshot.decimation ++
      itemSmall x.segment.val ++ item32 x.sequence ++ itemFullOpt x.trigger ++ itemSmall x.pre ++
      itemFull (BitVec.ofNat 16 x.post) ++ itemNat32 x.gap ++ itemNat32 (x.pre + x.post) ++
      itemFull (BitVec.ofNat 16 (x.snapshot.post - x.post)) ++ itemFullOpt x.nextDue ++ itemNat32 x.used

/-- GET CONTEXTS (R99). -/
def doGetContexts (_ : Call) (s : State) : Reply × State :=
  (.ok ((List.finRange 4).flatMap (fun k => contextItems s.contexts[k]) ++ item32 s.captureSeq), s)

end Sys2Proof.Machine
end

