-- ==== Sys2Proof/Machine/NodeRequests.lean ====
section
/-! DEFINITION. The requests of chapters 7, 8 and 10: ACK NOTICES, SET EVENT ENTRY, GET EVENT ENTRY, SET TIME, GET PARAM,
SET PARAM, STATUS, READ COUNTERS and CLEAR. -/

namespace Sys2Proof.Machine

/-! ### ACK NOTICES -/

/-- The numbers of ACK NOTICES: the count, then one number a word; none where RANGE applies (R135, R190). -/
def readAck (b : List Word) : Option (List (BitVec 8)) :=
  match paramSmall b 0 with
  | none => none
  | some n =>
    if 1 ≤ n ∧ n ≤ 8 then
      match paramWords b 1 n with
      | none => none
      | some l => if l.all fun w => w.toNat ≤ 255 then some (l.map (·.setWidth 8)) else none
    else none

/-- ACK NOTICES (R135). Every number that matches removes one entry, so the count matched is the fall in length. -/
def doAckNotices (c : Call) (s : State) : Reply × State :=
  match readAck c.body with
  | none => (.other .range [], s)
  | some l =>
    let q := l.foldl ackOne s.notices.queue
    let matched := s.notices.queue.length - q.length
    (.ok (itemSmall matched ++ itemSmall (l.length - matched) ++ itemSmall q.length ++ itemSmall (sentCount q)),
     s.setQueue q)

/-! ### Events and the time base -/

/-- A 4-bit mask of SET EVENT ENTRY: the whole word is checked (R145, R186). -/
def readMask (check : Nat) (o : Option Word) : Except Nat (BitVec 4) :=
  (needThat check o fun w => decide (w.toNat ≤ 15)).map (·.setWidth 4)

/-- The body of SET EVENT ENTRY: 0 code, 1 enable, 2 arm mask, 3 disarm mask, 4 zero-time, 5 pulse; checks of R145.
Where one check covers two fields, arm stands before disarm and enable before zero-time (DESIGN CHOICE, log 10). -/
def readEventEntry (b : List Word) : Except Nat (Fin 16 × EventEntry) := do
  let code ← needAt 10 ((paramSmall b 0).bind (indexBelow 16))
  let arm ← readMask 20 (paramWord b 2)
  let disarm ← readMask 21 (paramWord b 3)
  let enable ← needAt 30 (paramYesNo b 1)
  let zero ← needAt 31 (paramYesNo b 4)
  let pulse ← needThat 40 (paramWord b 5) fun w => decide (w.toNat ≤ 3)
  return (code, { enable := enable, arm := arm, disarm := disarm, zeroTime := zero, pulse := pulseOf pulse })

/-- The items of an event table entry, in the order of R144. -/
def EventEntry.items (e : EventEntry) : List Word :=
  itemYesNo e.enable ++ [e.arm.setWidth 16] ++ [e.disarm.setWidth 16] ++ itemYesNo e.zeroTime ++ [pulseWord e.pulse]

/-- SET EVENT ENTRY (R145). -/
def doSetEventEntry (c : Call) (s : State) : Reply × State :=
  match readEventEntry c.body with
  | .error n => (.rangeAt 26 n, s)
  | .ok (code, e) =>
    (.ok (itemSmall code.val ++ e.items), { s with events := { s.events with table := setAt s.events.table code e } })

/-- The pending entries that hold a code (R146). -/
def EventUnit.waitingFor (u : EventUnit) (code : Fin 16) : Nat :=
  u.waiting.countP fun w => w.code == code

/-- GET EVENT ENTRY (R146). -/
def doGetEventEntry (c : Call) (s : State) : Reply × State :=
  match (paramSmall c.body 0).bind (indexBelow 16) with
  | none => (.other .range [], s)
  | some code =>
    (.ok (itemSmall code.val ++ s.events.table[code].items ++ itemSmall (s.events.waitingFor code)), s)

/-- SET TIME (R150). -/
def doSetTime (c : Call) (s : State) : Reply × State :=
  match param48 c.body 0 with
  | none => (.other .range [], s)
  | some v => (.ok (item48 s.events.timeBase ++ item48 v), s.setTimeBase v)

/-! ### Parameters -/

/-- The seven parameters (R178). -/
inductive Param where
  | noticeSink
  | noticeResend
  | noticeLimit
  | leaseTime
  | eventDelay
  | ringLow
  | takeoverOrigin
  deriving DecidableEq, Repr

/-- The identifiers, in the order of R178, which R190 gives. -/
def Param.all : List Param :=
  [.noticeSink, .noticeResend, .noticeLimit, .leaseTime, .eventDelay, .ringLow, .takeoverOrigin]

/-- The identifier of a parameter (R190). -/
def Param.code : Param → Nat
  | .noticeSink => 0
  | .noticeResend => 1
  | .noticeLimit => 2
  | .leaseTime => 3
  | .eventDelay => 4
  | .ringLow => 5
  | .takeoverOrigin => 6

/-- The least and the greatest value of a parameter (R178). -/
def Param.range : Param → Nat × Nat
  | .noticeSink => (0, 62)
  | .noticeResend => (1, 255)
  | .noticeLimit => (0, 7)
  | .leaseTime => (1, 65535)
  | .eventDelay => (0, 65535)
  | .ringLow => (0, 63)
  | .takeoverOrigin => (0, 62)

/-- LEASE_TIME and EVENT_DELAY are full 16-bit numbers; the others are small numbers (R190). -/
def Param.isFull : Param → Bool
  | .leaseTime | .eventDelay => true
  | .noticeSink | .noticeResend | .noticeLimit | .ringLow | .takeoverOrigin => false

/-- The value of a parameter. -/
def Params.get (p : Params) : Param → Nat
  | .noticeSink => p.noticeSink
  | .noticeResend => p.noticeResend
  | .noticeLimit => p.noticeLimit
  | .leaseTime => p.leaseTime
  | .eventDelay => p.eventDelay
  | .ringLow => p.ringLow
  | .takeoverOrigin => p.takeoverOrigin

/-- A parameter written. -/
def Params.set (p : Params) (x : Param) (v : Nat) : Params :=
  match x with
  | .noticeSink => { p with noticeSink := v }
  | .noticeResend => { p with noticeResend := v }
  | .noticeLimit => { p with noticeLimit := v }
  | .leaseTime => { p with leaseTime := v }
  | .eventDelay => { p with eventDelay := v }
  | .ringLow => { p with ringLow := v }
  | .takeoverOrigin => { p with takeoverOrigin := v }

/-- The parameter an identifier names. -/
def paramOf (n : Nat) : Option Param :=
  Param.all.find? fun x => x.code == n

/-- A value as an item of its parameter's class. -/
def Param.item (x : Param) (v : Nat) : List Word :=
  if x.isFull then itemFull (BitVec.ofNat 16 v) else itemSmall v

/-- A parameter's identifier and value. -/
def State.paramItems (s : State) (x : Param) : List Word :=
  itemSmall x.code ++ x.item (s.params.get x)

/-- GET PARAM: an identifier of FFFFh is absent and asks for all seven (R179). -/
def doGetParam (c : Call) (s : State) : Reply × State :=
  match paramSmall c.body 0 with
  | none => (.other .range [], s)
  | some n =>
    if n = absentNumber then (.ok (Param.all.flatMap s.paramItems), s)
    else
      match paramOf n with
      | none => (.other .range [], s)
      | some x => (.ok (s.paramItems x), s)

/-- The value word or words of SET PARAM, from body word 1 on. -/
def Param.readValue (x : Param) (b : List Word) : Option Nat :=
  if x.isFull then paramFull b 1 else paramSmall b 1

/-- The identifier and the value of SET PARAM; checks: identifier 1, value 2 (R180). -/
def readSetParam (b : List Word) : Except Nat (Param × Nat) := do
  let x ← needAt 1 ((paramSmall b 0).bind paramOf)
  let v ← needThat 2 (x.readValue b) fun v => decide (x.range.1 ≤ v ∧ v ≤ x.range.2)
  return (x, v)

/-- A parameter written, with the owner's action on the change (R180). LEASE_TIME's restart is the one that every
control request makes (R166). -/
def State.writeParam (s : State) (x : Param) (v : Nat) : State :=
  let t := { s with params := s.params.set x v }
  match x with
  | .noticeSink => if v = s.params.noticeSink then t else t.setQueue (requeue t.notices.queue)
  | .ringLow => t.ringLowTest
  | .noticeResend | .noticeLimit | .leaseTime | .eventDelay | .takeoverOrigin => t

/-- SET PARAM (R180). -/
def doSetParam (c : Call) (s : State) : Reply × State :=
  match readSetParam c.body with
  | .error n => (.rangeAt 3 n, s)
  | .ok (x, v) => (.ok (itemSmall x.code ++ x.item (s.params.get x) ++ x.item v), s.writeParam x v)

/-! ### STATUS -/

/-- The code of a link state. -/
def Link.code : Link → Nat
  | .down => 0
  | .hunt => 1
  | .up => 2

/-- The number of watches whose state has a code, EMPTY 0 to SPENT 5 (R53). -/
def State.watchesIn (s : State) (code : Nat) : Nat :=
  (List.finRange 32).countP fun i => s.watchCode i == code

/-- The items of STATUS, in the order of R181. -/
def State.statusItems (s : State) : List Word :=
  itemSmall s.strap.toNat ++ itemSmall s.port.link.code ++ s.leaseItems ++ itemFullOpt s.receiver.expected ++
    itemSmall s.receiver.history.length ++ [0, 1, 2, 3, 4, 5].flatMap (fun k => itemSmall (s.watchesIn k)) ++
    itemSmall s.activeContexts.length ++ itemSmall s.ring.freeCount ++ itemSmall s.ring.completed.length ++
    itemSmall s.notices.queue.length ++ itemSmall (sentCount s.notices.queue) ++ itemSmall s.events.waiting.length ++
    item48 s.events.timeBase

/-- STATUS (R181). -/
def doStatus (_ : Call) (s : State) : Reply × State :=
  (.ok s.statusItems, s)

/-! ### READ COUNTERS -/

/-- The twelve counters, in the order of R182. -/
def State.counterItems (s : State) : List Word :=
  s.counters.toList.flatMap item32

/-- READ COUNTERS with its clear option (R183). -/
def doReadCounters (c : Call) (s : State) : Reply × State :=
  match paramYesNo c.body 0 with
  | none => (.other .range [], s)
  | some clear =>
    (.ok (s.counterItems ++ [flagWord clear]),
     if clear then { s with counters := Vector.replicate 12 0 } else s)

/-! ### CLEAR -/

/-- The scope TABLES (R184, R97, R52, R82, R155, R34). -/
def State.clearTables (s : State) : State :=
  let t := s.endAll .aborted
  { t with
    watches := Vector.replicate 32 none
    profiles := Vector.replicate 8 none
    events := { t.events with table := Vector.replicate 16 EventEntry.powerOn }
    receiver := { t.receiver with historySet := [], history := [] } }

/-- The scope CAPTURES (R184, R122). -/
def State.clearCaptures (s : State) : State :=
  ((s.endAll .aborted).freeAll).ringLowTest

/-- The scope NOTICES (R184, R139). -/
def State.clearNotices (s : State) : State :=
  s.setQueue []

/-- The scopes of a word (R190). -/
structure Scopes where
  tables : Bool
  captures : Bool
  notices : Bool
  deriving DecidableEq, Repr

/-- Bits 0, 1 and 2; the others are reserved and ignored (R190). -/
def scopesOf (w : Word) : Scopes :=
  { tables := w.getLsbD 0, captures := w.getLsbD 1, notices := w.getLsbD 2 }

/-- The word of a scope set. -/
def Scopes.word (x : Scopes) : Word :=
  bitAt 0 x.tables ||| bitAt 1 x.captures ||| bitAt 2 x.notices

/-- CLEAR's scopes in their order: TABLES, CAPTURES, NOTICES (R184). -/
def State.clear (s : State) (x : Scopes) : State :=
  let a := if x.tables then s.clearTables else s
  let b := if x.captures then a.clearCaptures else a
  if x.notices then b.clearNotices else b

/-- What CLEAR reports: the scopes, the captures ended, the segments freed by CAPTURES, those of captures it ends among
them, and the notice entries removed by NOTICES (R184). -/
def State.clearItems (s : State) (x : Scopes) : List Word :=
  let a := if x.tables then s.clearTables else s
  let b := if x.captures then a.clearCaptures else a
  [x.word] ++ itemSmall (if x.tables || x.captures then s.activeContexts.length else 0) ++
    itemSmall (if x.captures then a.ring.indices.countP (fun g => a.ring.segs[g].isSome) else 0) ++
    itemSmall (if x.notices then b.notices.queue.length else 0)

/-- CLEAR (R184). -/
def doClear (c : Call) (s : State) : Reply × State :=
  match paramWord c.body 0 with
  | none => (.other .range [], s)
  | some w => (.ok (s.clearItems (scopesOf w)), s.clear (scopesOf w))

end Sys2Proof.Machine
end

