-- ==== Sys2Proof/Machine/RingRequests.lean ====
section
/-! DEFINITION. The requests of chapter 6: FORMAT RING with and without FORCE, READ SEGMENT, RELEASE SEGMENT, SEGMENT INFO
and SCAN. -/

namespace Sys2Proof.Machine

/-! ### FORMAT RING -/

/-- The body of FORMAT RING: 0 segment count, 1 and 2 segment size, 3 the FORCE flag in bit 0 (log 12). The range checks
of R102: count 1, size 2, product 3. -/
def readFormat (b : List Word) : Except Nat (Nat × Nat × Bool) := do
  let n ← needThat 1 (paramSmall b 0) fun n => decide (2 ≤ n) && n ≤ 64
  let size ← needThat 2 (param32 b 1) fun n => decide (64 ≤ n) && n ≤ 131072
  needTrue 3 (decide (n * size ≤ Config.memoryWords))
  let force ← needAt 4 (paramWord b 3)
  return (n, size, force.getLsbD 0)

/-- The format set, every segment FREE, the completed list empty, the cursor 0, and the ring-low test (R102, R103). -/
def State.format (s : State) (n size : Nat) : State :=
  let t := s.freeAll
  { t with ring := { t.ring with segCount := n, segSize := size } }.ringLowTest

/-- The format as it stands. -/
def State.formatItems (s : State) : List Word :=
  itemSmall s.ring.segCount ++ itemNat32 s.ring.segSize

/-- Every ACTIVE context's capture ends without a record (R98). -/
def State.dropAll (s : State) : State :=
  s.activeContexts.foldl State.dropCapture s

/-- The count of segments that are not FREE. -/
def Ring.usedCount (r : Ring) : Nat :=
  r.indices.countP fun g => r.segs[g].isSome

/-- The records of the ring: FULL and READING segments. -/
def Ring.records (r : Ring) : Nat :=
  r.stateCount fun x => !x.isFilling

/-- FORMAT RING (R102, R103). -/
def doFormatRing (c : Call) (s : State) : Reply × State :=
  match readFormat c.body with
  | .error n => (.rangeAt 20 n, s)
  | .ok (n, size, force) =>
    if force then
      let t := s.dropAll.format n size
      (.ok (t.formatItems ++ itemSmall s.activeContexts.length ++ itemSmall s.ring.records), t)
    else if s.ring.usedCount = 0 then (.ok (s.format n size).formatItems, s.format n size)
    else
      (.other .busy (itemSmall (s.ring.stateCount SegmentState.isFilling) ++
        itemSmall (s.ring.stateCount (· == .full)) ++ itemSmall (s.ring.stateCount (· == .reading))), s)

/-! ### READ SEGMENT and RELEASE SEGMENT -/

/-- A segment index of the present format. -/
def State.segmentIndex (s : State) (n : Nat) : Option (Fin 64) :=
  if n < s.ring.segCount then indexBelow 64 n else none

/-- The parameters of READ SEGMENT: 0 segment, 1 and 2 offset, 3 count; check 1 of R113. -/
def State.readReadSegment (s : State) (b : List Word) : Option (Fin 64 × Nat × Nat) :=
  match (paramSmall b 0).bind s.segmentIndex, param32 b 1, paramSmall b 3 with
  | some g, some offset, some count =>
    if offset ≤ 131071 ∧ 1 ≤ count ∧ count ≤ 120 then some (g, offset, count) else none
  | _, _, _ => none

/-- The capture words that fit a reply room (R189). -/
def wordsThatFit (room : Nat) : Nat := (room - 12) / 2

/-- The count served (R114). -/
def servedCount (count room fill offset : Nat) : Nat :=
  min count (min (wordsThatFit room) (fill - offset))

/-- A segment after a read that ended at `upTo`: FULL becomes READING, the high-water is raised (R106, R114). -/
def Segment.served (x : Segment) (upTo : Nat) : Segment :=
  { x with
    state := if x.state = .full then .reading else x.state
    highWater := max x.highWater upTo }

/-- Word 3 of a READ SEGMENT response (R189). -/
def readStateWord (g : Fin 64) (code : Nat) (released : Bool) : Word :=
  BitVec.ofNat 16 g.val ||| BitVec.ofNat 16 (256 * code) ||| bitAt 15 released

/-- The capture words as loop words, low half first (R189). -/
def captureLoopWords (ws : List CapWord) : List Word := ws.flatMap item32

/-- A READ SEGMENT of a segment with this record, served (R114, R115). -/
def State.serveRead (s : State) (g : Fin 64) (x : Segment) (offset count room : Nat) : Reply × State :=
  let served := servedCount count room x.fill offset
  let y := x.served (offset + served)
  let released := y.state == .reading && offset + served == x.fill && x.autoRelease
  let t := s.modifySegment g fun _ => y
  let u := if released then (t.freeSegment g).ringLowTest else t
  ({ status := .ok
     short := decide (served < count)
     body := [readStateWord g (segmentCode u.ring.segs[g]) released] ++ itemNat32 offset ++ itemSmall served ++
       item32 x.sequence ++ itemNat32 x.fill ++
       captureLoopWords (s.ring.mem.readRange (s.ring.base g + offset) served) }, u)

/-- READ SEGMENT (R112 to R115). -/
def doReadSegment (c : Call) (s : State) : Reply × State :=
  match s.readReadSegment c.body with
  | none => (.other .range [], s)
  | some (g, offset, count) =>
    match s.ring.segs[g] with
    | none => (.other .empty (itemSmall 0), s)
    | some x =>
      if x.fill ≤ offset then (.other .range (itemNat32 x.fill), s) else s.serveRead g x offset count c.room

/-- The segment index of a request, or RANGE (R117, R118). -/
def withSegment (c : Call) (s : State) (f : Fin 64 → Reply × State) : Reply × State :=
  match (paramSmall c.body 0).bind s.segmentIndex with
  | none => (.other .range [], s)
  | some g => f g

/-- RELEASE SEGMENT (R117). -/
def doReleaseSegment (c : Call) (s : State) : Reply × State :=
  withSegment c s fun g =>
    match s.ring.segs[g] with
    | none => (.other .empty (itemSmall g.val ++ itemSmall 0), s)
    | some x =>
      if x.state.isFilling then (.other .busy (itemSmall g.val ++ itemSmall 1), s)
      else
        (.ok (itemSmall g.val ++ itemSmall 0 ++ item32 x.sequence ++ itemSmall x.endReason.code.toNat),
         (s.freeSegment g).ringLowTest)

/-! ### SEGMENT INFO and SCAN -/

/-- The context of a FILLING segment. -/
def SegmentState.context : SegmentState → Option (Fin 4)
  | .filling ctx => some ctx
  | .full => none
  | .reading => none

/-- A segment's place in the completed list, counting the head as 1 (R118). -/
def Ring.position (r : Ring) (g : Fin 64) : Option Nat :=
  if g ∈ r.completed then some (r.completed.idxOf g + 1) else none

/-- Word `n` of a segment's header. -/
def Ring.headerWord (r : Ring) (g : Fin 64) (n : Nat) : CapWord :=
  r.mem.read (r.base g + n)

/-- The trigger sweep with its valid flag, from header word 1. -/
def triggerItems (w : CapWord) : List Word :=
  if w.getLsbD 15 then itemFull (w.extractLsb' 16 16) else itemFullOpt none

/-- The slot list in header words 8 to 11. -/
def Ring.headerSlots (r : Ring) (g : Fin 64) : List (BitVec 8) :=
  ([8, 9, 10, 11].flatMap fun n =>
    let w := r.headerWord g n
    [w.extractLsb' 0 8, w.extractLsb' 8 8, w.extractLsb' 16 8, w.extractLsb' 24 8]).take
    ((r.headerWord g 1).extractLsb' 10 5).toNat

/-- The header's contents, field by field, as the capture engine wrote them (R118). -/
def Ring.headerItems (r : Ring) (g : Fin 64) : List Word :=
  let w0 := r.headerWord g 0
  let w1 := r.headerWord g 1
  let w3 := r.headerWord g 3
  itemSmall (w0.extractLsb' 4 4).toNat ++ itemSmall (w0.extractLsb' 8 8).toNat ++ itemSmall (w0.extractLsb' 0 4).toNat ++
    itemSmall (w1.extractLsb' 10 5).toNat ++ item32 (r.headerWord g 2) ++ triggerItems w1 ++
    itemSmall (w1.extractLsb' 0 9).toNat ++ itemSmall (w3.extractLsb' 0 11).toNat ++ itemFull (w3.extractLsb' 16 16) ++
    item32 (r.headerWord g 4) ++ item48 ((r.headerWord g 6).extractLsb' 0 16 ++ r.headerWord g 5) ++
    item32 (r.headerWord g 7) ++ itemSlots (r.headerSlots g)

/-- SEGMENT INFO (R118). -/
def doSegmentInfo (c : Call) (s : State) : Reply × State :=
  withSegment c s fun g =>
    match s.ring.segs[g] with
    | none => (.other .empty (itemSmall 0), s)
    | some x =>
      (.ok (itemSmall (segmentCode (some x)) ++ itemSmallOpt (x.state.context.map Fin.val) ++ item32 x.sequence ++
        itemNat32 x.fill ++ itemNat32 x.highWater ++ itemYesNo x.autoRelease ++ itemSmall x.endReason.code.toNat ++
        itemSmallOpt (s.ring.position g) ++ itemSmall s.ring.completed.length ++ s.ring.headerItems g), s)

/-- The entry after a segment in a list; none where it is the last. -/
def entryAfter (g : Fin 64) : List (Fin 64) → Option (Fin 64)
  | [] => none
  | x :: rest => if x = g then rest.head? else entryAfter g rest

/-- The entry SCAN reports: the head where no index is given or the named segment is not in the list, else the entry
that follows it (R119). -/
def Ring.scanned (r : Ring) (o : Option (Fin 64)) : Option (Fin 64) :=
  match o with
  | none => r.completed.head?
  | some g => if g ∈ r.completed then entryAfter g r.completed else r.completed.head?

/-- The items SCAN reports of an entry (R119). -/
def Ring.scanItems (r : Ring) (g : Fin 64) (x : Segment) : List Word :=
  itemSmall g.val ++ itemSmallOpt (r.position g) ++ itemSmall r.completed.length ++ itemSmall (segmentCode (some x)) ++
    item32 x.sequence ++ itemNat32 x.fill ++ itemNat32 x.highWater ++ itemYesNo x.autoRelease ++
    itemSmall x.endReason.code.toNat ++ itemSmall ((r.headerWord g 0).extractLsb' 4 4).toNat ++
    itemSmall ((r.headerWord g 0).extractLsb' 8 8).toNat ++ triggerItems (r.headerWord g 1)

/-- The optional segment index of SCAN: FFFFh is absent (R190); none where it is missing or out of range. -/
def State.readScan (s : State) (b : List Word) : Option (Option (Fin 64)) :=
  match paramSmall b 0 with
  | none => none
  | some n => if n = absentNumber then some none else (s.segmentIndex n).map some

/-- SCAN (R119). -/
def doScan (c : Call) (s : State) : Reply × State :=
  match s.readScan c.body with
  | none => (.other .range [], s)
  | some o =>
    match s.ring.scanned o with
    | none => (.other .none (itemSmall s.ring.completed.length), s)
    | some g =>
      match s.ring.segs[g] with
      | none => (.other .none (itemSmall s.ring.completed.length), s)
      | some x => (.ok (s.ring.scanItems g x), s)

end Sys2Proof.Machine
end

