-- ==== Sys2Proof/Machine/WatchRequests.lean ====
section
/-! DEFINITION. The requests of chapters 3 and 4: LOAD WATCH, CLEAR WATCH, GET WATCH, ARM, DISARM, ARM GROUP,
DISARM GROUP and FORCE. -/

namespace Sys2Proof.Machine

/-! ### LOAD WATCH -/

/-! The body of LOAD WATCH is the watch index and the fields of R35 in their order (R190, log 12): 0 index, 1 source,
2 comparison, 3 slot, 4 lo, 5 hi, 6 and 7 step, 8 mark mask, 9 event code, 10 line, 11 edge, 12 qualifier,
13 precondition index, 14 and 15 window, 16 group, 17 budget, 18 and 19 holdoff, 20 profile, 21 mark code, 22 pulse,
23 notify. A check's number is ten times its place in the table of R40, plus the field within that place. -/

/-- Check 4: the slot. -/
def readSlot (b : List Word) : Except Nat (BitVec 8) :=
  (needThat 40 (paramSmall b 3) fun n => n ≤ 255).map (BitVec.ofNat 8 ·)

/-- Check 5: lo or hi, a sample. -/
def readThreshold (check place : Nat) (b : List Word) : Except Nat Sample :=
  needThat check (paramWord b place) fun w => w != absentCode

/-- Check 6: lo and hi in order. -/
def readBoth (strict : Bool) (b : List Word) : Except Nat (Sample × Sample) := do
  let lo ← readThreshold 50 4 b
  let hi ← readThreshold 51 5 b
  needTrue 60 (if strict then decide (lo.toInt < hi.toInt) else decide (lo.toInt ≤ hi.toInt))
  return (lo, hi)

/-- Check 9: line and edge. -/
def readLine (n : Nat) : Option Line :=
  match n with
  | 0 => some .l0
  | 1 => some .l1
  | _ => none

/-- Check 9: the edge. -/
def readEdge (n : Nat) : Option Edge :=
  match n with
  | 0 => some .rising
  | 1 => some .falling
  | _ => none

/-- Checks 3 to 6 of a LEVEL watch. -/
def readLevel (b : List Word) : Except Nat Condition := do
  let cmp ← needThat 30 (paramEnum b 2) fun n => n ≤ 3
  let slot ← readSlot b
  match cmp with
  | 0 => return .above slot (← readThreshold 51 5 b)
  | 1 => return .below slot (← readThreshold 50 4 b)
  | 2 => let p ← readBoth false b; return .inside slot p.1 p.2
  | _ => let p ← readBoth false b; return .outside slot p.1 p.2

/-- Checks 2 to 9: the source with the fields it uses. Fields that it does not use are not checked (R40). -/
def readCondition (b : List Word) : Except Nat Condition := do
  match ← needAt 20 (paramEnum b 1) with
  | 0 => readLevel b
  | 1 => let slot ← readSlot b; let p ← readBoth true b; return .rise slot p.1 p.2
  | 2 => let slot ← readSlot b; let p ← readBoth true b; return .fall slot p.1 p.2
  | 3 => let slot ← readSlot b; let n ← needThat 70 (paramFull b 6) fun n => n != 0; return .step slot n
  | 4 => return .mark (← needThat 80 (paramWord b 8) fun w => w != 0)
  | 5 => return .event (← needAt 90 ((paramSmall b 9).bind (indexBelow 16)))
  | 6 =>
    let line ← needAt 91 ((paramEnum b 10).bind readLine)
    let edge ← needAt 92 ((paramEnum b 11).bind readEdge)
    return .line line edge
  | _ => throw 20

/-- Check 10: the qualifier, read for LEVEL and MARK and 1 for the other sources (R35). -/
def readQualifier (c : Condition) (b : List Word) : Except Nat Nat :=
  match c with
  | .above _ _ | .below _ _ | .inside _ _ _ | .outside _ _ _ | .mark _ =>
    needThat 100 (paramSmall b 12) fun n => n != 0 && n ≤ 255
  | .rise _ _ _ | .fall _ _ _ | .step _ _ | .event _ | .line _ _ => .ok 1

/-- Check 11: the precondition, absent by its index (log 14); the window's present word is 0 or 1 also then (R190). -/
def readPrecondition (own : Nat) (b : List Word) : Except Nat (Option Precondition) := do
  let n ← needAt 110 (paramSmall b 13)
  if n = absentNumber then
    let _ ← needAt 111 (paramPresence b 14)
    return none
  let i ← needAt 110 (indexBelow 32 n)
  needTrue 110 (decide (n < own))
  let window ← needThat 111 (paramFull b 14) fun n => n != 0
  return some { watch := i, window := window }

/-- An optional index: FFFFh is absent, and any other value must be below `n`. -/
def readOptIndex (check n : Nat) (o : Option Nat) : Except Nat (Option (Fin n)) := do
  let x ← needAt check o
  if x = absentNumber then return none
  return some (← needAt check (indexBelow n x))

/-- Check 13: the budget. -/
def readBudget (b : List Word) : Except Nat (Option Nat) := do
  let n ← needAt 130 (paramSmall b 17)
  if n = absentNumber then return none
  needTrue 130 (n != 0 && n ≤ 255)
  return some n

/-- Checks 2 to 14 for the watch of this index, then holdoff and notify by R190 (log 12). -/
def readContents (own : Nat) (b : List Word) : Except Nat Contents := do
  let condition ← readCondition b
  let qualifier ← readQualifier condition b
  let precondition ← readPrecondition own b
  let group ← needAt 120 ((paramSmall b 16).bind (indexBelow 4))
  let budget ← readBudget b
  let profile ← readOptIndex 140 8 (paramSmall b 20)
  let markCode ← readOptIndex 141 16 (paramSmall b 21)
  let pulse ← needThat 142 (paramWord b 22) fun w => decide (w.toNat ≤ 3)
  let holdoff ← needAt 150 (paramFull b 18)
  let notify ← needAt 160 (paramYesNo b 23)
  return { condition := condition, qualifier := qualifier, precondition := precondition, group := group,
           budget := budget, holdoff := holdoff, profile := profile, markCode := markCode, pulse := pulseOf pulse,
           notify := notify }

/-- Check 1, then the rest (R40). -/
def readLoadWatch (b : List Word) : Except Nat (Fin 32 × Contents) := do
  let i ← needAt 10 ((paramSmall b 0).bind (indexBelow 32))
  return (i, ← readContents i.val b)

/-- A watch entry with these contents, IDLE with a fresh runtime (R41). -/
def Watch.loaded (c : Contents) : Watch :=
  { state := .idle, contents := c, runtime := Runtime.fresh c }

/-- EMPTY or IDLE: LOAD WATCH is accepted (R41). -/
def loadable (o : Option Watch) : Bool :=
  match o with
  | none => true
  | some w => w.state == .idle

/-- LOAD WATCH (R40, R41). -/
def doLoadWatch (c : Call) (s : State) : Reply × State :=
  match readLoadWatch c.body with
  | .error n => (.rangeAt 7 n, s)
  | .ok (i, contents) =>
    if loadable s.watches[i] then
      (.ok (itemSmall i.val ++ itemSmall 1), { s with watches := setAt s.watches i (some (Watch.loaded contents)) })
    else (.other .state (itemSmall (s.watchCode i)), s)

/-! ### The other watch requests -/

/-- The watch index of a request, or RANGE (R42 to R45, R73). -/
def withWatch (c : Call) (s : State) (f : Fin 32 → Reply × State) : Reply × State :=
  match (paramSmall c.body 0).bind (indexBelow 32) with
  | none => (.other .range [], s)
  | some i => f i

/-- The watch is FIRED. -/
def isFired (o : Option Watch) : Bool :=
  match o with
  | none => false
  | some w => w.state == .fired

/-- CLEAR WATCH (R42). -/
def doClearWatch (c : Call) (s : State) : Reply × State :=
  withWatch c s fun i =>
    if isFired s.watches[i] then (.other .busy (itemSmall (s.watchCode i)), s)
    else (.ok (itemSmall 0), { s with watches := setAt s.watches i none })

/-- The items of a source and its fields, in the order of R35: source, comparison, slot, lo, hi, step, mark mask, event
code, line, edge. -/
def sourceItems (source : Nat) (cmp : Option Nat) (slot : Option (BitVec 8)) (lo hi : Option Sample) (step : Option Nat)
    (mask : Option Word) (code : Option (Fin 16)) (line : Option Nat) (edge : Option Nat) : List Word :=
  itemSmall source ++ itemSmallOpt cmp ++ itemSmallOpt (slot.map BitVec.toNat) ++ itemSampleOpt lo ++ itemSampleOpt hi ++
    itemFullOpt (step.map (BitVec.ofNat 16 ·)) ++ [mask.getD Config.absentMask] ++ itemSmallOpt (code.map Fin.val) ++
    itemSmallOpt line ++ itemSmallOpt edge

/-- The code of a line. -/
def Line.code : Line → Nat
  | .l0 => 0
  | .l1 => 1

/-- The code of an edge. -/
def Edge.code : Edge → Nat
  | .rising => 0
  | .falling => 1

/-- The items of a condition; fields its source does not use are absent (R35, R43). -/
def Condition.items : Condition → List Word
  | .above slot hi => sourceItems 0 (some 0) (some slot) none (some hi) none none none none none
  | .below slot lo => sourceItems 0 (some 1) (some slot) (some lo) none none none none none none
  | .inside slot lo hi => sourceItems 0 (some 2) (some slot) (some lo) (some hi) none none none none none
  | .outside slot lo hi => sourceItems 0 (some 3) (some slot) (some lo) (some hi) none none none none none
  | .rise slot lo hi => sourceItems 1 none (some slot) (some lo) (some hi) none none none none none
  | .fall slot lo hi => sourceItems 2 none (some slot) (some lo) (some hi) none none none none none
  | .step slot n => sourceItems 3 none (some slot) none none (some n) none none none none
  | .mark m => sourceItems 4 none none none none none (some m) none none none
  | .event k => sourceItems 5 none none none none none none (some k) none none
  | .line l e => sourceItems 6 none none none none none none none (some (Line.code l)) (some e.code)

/-- The items of the loaded contents, in the order of R35. -/
def Contents.items (c : Contents) : List Word :=
  c.condition.items ++ itemSmall c.qualifier ++ itemSmallOpt (c.precondition.map (·.watch.val)) ++
    itemFullOpt (c.precondition.map fun p => BitVec.ofNat 16 p.window) ++ itemSmall c.group.val ++
    itemSmallOpt c.budget ++ itemFull (BitVec.ofNat 16 c.holdoff) ++ itemSmallOpt (c.profile.map Fin.val) ++
    itemSmallOpt (c.markCode.map Fin.val) ++ [pulseWord c.pulse] ++ itemYesNo c.notify

/-- The code of a latch. -/
def Latch.code : Latch → Nat
  | .unknown => 0
  | .low => 1
  | .high => 2

/-- The items of the runtime, in the order of R36. -/
def Runtime.items (r : Runtime) : List Word :=
  itemSmall r.run ++ itemSmall r.latch.code ++ itemSampleOpt r.previous ++ itemFullOpt r.lastFire ++
    itemSmallOpt r.firesLeft ++ itemFull (BitVec.ofNat 16 r.holdoffLeft) ++ itemFull (BitVec.ofNat 16 r.refusals)

/-- The ACTIVE context whose capture refers to a watch. -/
def State.contextOf (s : State) (i : Fin 32) : Option (Fin 4) :=
  (List.finRange 4).find? fun k =>
    match s.contexts[k] with
    | none => false
    | some c => c.watchRef == some i

/-- The flag ORPHAN-FREE: no ACTIVE context holds a capture that a fire of this watch opened without referring to it (R43). -/
def State.orphanFree (s : State) (i : Fin 32) : Bool :=
  (List.finRange 4).all fun k =>
    match s.contexts[k] with
    | none => true
    | some c => c.openingWatch != i || c.watchRef == some i

/-- GET WATCH (R43). That the response of an EMPTY watch carries the state and not the flag ORPHAN-FREE is the model's choice
(DESIGN CHOICE, log 24). -/
def doGetWatch (c : Call) (s : State) : Reply × State :=
  withWatch c s fun i =>
    match s.watches[i] with
    | none => (.other .empty (itemSmall 0), s)
    | some w =>
      (.ok (itemSmall i.val ++ itemSmall (s.watchCode i) ++ w.contents.items ++ w.runtime.items ++
        itemSmallOpt (if w.state = .fired then (s.contextOf i).map Fin.val else none) ++ [flagWord (s.orphanFree i)]), s)

/-- ARM (R44). -/
def doArm (c : Call) (s : State) : Reply × State :=
  withWatch c s fun i =>
    match s.armCase i with
    | .empty => (.other .empty (itemSmall (s.watchCode i)), s)
    | .busy => (.other .state (itemSmall (s.watchCode i)), s)
    | .already => (.ok (itemSmall (s.watchCode i)), s)
    | .noProfile p => (.other .conflict (itemSmall p.val ++ itemSmall (s.watchCode i)), s)
    | .arms => (.ok (itemSmall ((s.armWatch i).watchCode i)), s.armWatch i)

/-- DISARM (R45, R46). -/
def doDisarm (c : Call) (s : State) : Reply × State :=
  withWatch c s fun i =>
    match s.watches[i] with
    | none => (.other .empty (itemSmall 0), s)
    | some _ => (.ok (itemSmall ((s.disarmWatch i).watchCode i)), s.disarmWatch i)

/-- The group mask of a request: the low 4 bits, the rest reserved (R186); none where it is missing. -/
def maskOf (c : Call) : Option (BitVec 4) :=
  (paramWord c.body 0).map fun w => w.extractLsb' 0 4

/-- ARM GROUP (R47). -/
def doArmGroup (c : Call) (s : State) : Reply × State :=
  match maskOf c with
  | none => (.other .range [], s)
  | some m => (.ok (itemSmall (s.armable m).length ++ itemWatchSet (s.armable m)), s.armGroup m)

/-- DISARM GROUP (R48). -/
def doDisarmGroup (c : Call) (s : State) : Reply × State :=
  match maskOf c with
  | none => (.other .range [], s)
  | some m => (.ok (itemSmall (s.disarmable m).length ++ itemWatchSet (s.disarmable m)), s.disarmGroup m)

/-- What FORCE reports of the outcome: TAKEN 0 or REFUSED 1 (DESIGN CHOICE, log 27), the context, the flag LOST (R73). -/
def FireOutcome.items : FireOutcome → List Word
  | .refused => itemSmall 1 ++ itemSmallOpt none ++ [flagWord false]
  | .taken ctx lost => itemSmall 0 ++ itemSmallOpt (ctx.map Fin.val) ++ [flagWord lost]

/-- The watch is ARMED. -/
def isArmed (o : Option Watch) : Bool :=
  match o with
  | none => false
  | some w => w.state == .armed

/-- FORCE (R73). -/
def doForce (c : Call) (s : State) : Reply × State :=
  withWatch c s fun i =>
    if isArmed s.watches[i] then
      let r := s.fire i s.receiver.expected none
      (.ok (itemSmall i.val ++ r.1.items ++ itemSmall (r.2.watchCode i)), r.2)
    else (.other .state (itemSmall (s.watchCode i)), s)

end Sys2Proof.Machine
end

