-- ==== Sys2Proof/Machine/Handler.lean ====
section
/-! DEFINITION. The request handler (chapter 9): request kinds with their classes and fixed replies, the lease, the origin
table with the replay, the checks of R162, and the RESPONSE. -/

namespace Sys2Proof.Machine

/-- The request kinds of R189. -/
inductive RequestKind where
  | status
  | getParam
  | setParam
  | readCounters
  | clear
  | setHistory
  | loadWatch
  | clearWatch
  | getWatch
  | arm
  | disarm
  | armGroup
  | disarmGroup
  | force
  | loadProfile
  | clearProfile
  | getProfile
  | abortCapture
  | getContexts
  | formatRing
  | readSegment
  | releaseSegment
  | segmentInfo
  | scan
  | ackNotices
  | setEventEntry
  | getEventEntry
  | setTime
  | claim
  | renew
  | yield
  | takeover
  deriving DecidableEq, Repr

/-- The kind codes of R189. -/
def RequestKind.code : RequestKind → BitVec 8
  | .status => 1
  | .getParam => 2
  | .setParam => 3
  | .readCounters => 4
  | .clear => 5
  | .setHistory => 6
  | .loadWatch => 7
  | .clearWatch => 8
  | .getWatch => 9
  | .arm => 10
  | .disarm => 11
  | .armGroup => 12
  | .disarmGroup => 13
  | .force => 14
  | .loadProfile => 15
  | .clearProfile => 16
  | .getProfile => 17
  | .abortCapture => 18
  | .getContexts => 19
  | .formatRing => 20
  | .readSegment => 21
  | .releaseSegment => 22
  | .segmentInfo => 23
  | .scan => 24
  | .ackNotices => 25
  | .setEventEntry => 26
  | .getEventEntry => 27
  | .setTime => 28
  | .claim => 29
  | .renew => 30
  | .yield => 31
  | .takeover => 32

/-- Every request kind, by rising code. -/
def RequestKind.all : List RequestKind :=
  [.status, .getParam, .setParam, .readCounters, .clear, .setHistory, .loadWatch, .clearWatch, .getWatch, .arm, .disarm,
   .armGroup, .disarmGroup, .force, .loadProfile, .clearProfile, .getProfile, .abortCapture, .getContexts, .formatRing,
   .readSegment, .releaseSegment, .segmentInfo, .scan, .ackNotices, .setEventEntry, .getEventEntry, .setTime, .claim,
   .renew, .yield, .takeover]

/-- The kind a code names; codes 0 and 33 to 255 name none (R189). -/
def requestKindOf (code : BitVec 8) : Option RequestKind :=
  RequestKind.all.find? fun k => k.code == code

/-- The fixed reply of a kind in loop words (R189). -/
def RequestKind.fixedReply : RequestKind → Nat
  | .status => 30
  | .getParam => 20
  | .setParam => 9
  | .readCounters => 29
  | .clear => 8
  | .setHistory => 24
  | .loadWatch => 8
  | .clearWatch => 7
  | .getWatch => 44
  | .arm => 8
  | .disarm => 7
  | .armGroup => 7
  | .disarmGroup => 7
  | .force => 9
  | .loadProfile => 7
  | .clearProfile => 7
  | .getProfile => 24
  | .abortCapture => 16
  | .getContexts => 102
  | .formatRing => 10
  | .readSegment => 14
  | .releaseSegment => 10
  | .segmentInfo => 44
  | .scan => 22
  | .ackNotices => 8
  | .setEventEntry => 10
  | .getEventEntry => 11
  | .setTime => 10
  | .claim => 6
  | .renew => 6
  | .yield => 6
  | .takeover => 7

/-- A control request (R164). READ COUNTERS takes its class from its clear option: only a clear "no" is observe (R183). -/
def RequestKind.isControl (k : RequestKind) (body : List Word) : Bool :=
  match k with
  | .status | .getParam | .getWatch | .getProfile | .getContexts | .getEventEntry | .segmentInfo | .scan | .claim
  | .ackNotices => false
  | .readCounters => paramYesNo body 0 != some false
  | .setParam | .clear | .setHistory | .loadWatch | .clearWatch | .arm | .disarm | .armGroup | .disarmGroup | .force
  | .loadProfile | .clearProfile | .abortCapture | .formatRing | .readSegment | .releaseSegment | .setEventEntry
  | .setTime | .renew | .yield | .takeover => true

/-- Check 3 (R162, R164): ACK NOTICES and TAKEOVER have an origin check of their own; a control request needs the lease. -/
def State.classOk (s : State) (k : RequestKind) (c : Call) : Bool :=
  match k with
  | .ackNotices => c.origin.toNat == s.params.noticeSink
  | .takeover => c.origin.toNat == s.params.takeoverOrigin
  | _ => !(k.isControl c.body) || s.session.holder == some c.origin

/-! ### The lease -/

/-- The ticks the lease timer is loaded with (R165). -/
def State.leaseTicks (s : State) : Nat :=
  s.params.leaseTime * Config.leaseUnitTicks

/-- The lease timer loaded with LEASE_TIME (R166, R167). -/
def State.loadLease (s : State) : State :=
  { s with session := { s.session with leaseTimer := some s.leaseTicks } }

/-- The lease given to an origin, a change of holder (R116, R167, R170). -/
def State.giveLease (s : State) (o : Addr) : State :=
  ({ s with session := { s.session with holder := some o } }.loadLease).readingReturn

/-- The holder cleared and the timer stopped (R116, R169, R171). -/
def State.clearLease (s : State) : State :=
  { s with session := { s.session with holder := none, leaseTimer := none } }.readingReturn

/-- CLAIM (R167). -/
def doClaim (c : Call) (s : State) : Reply × State :=
  match s.session.holder with
  | none => (.ok (s.giveLease c.origin).leaseItems, s.giveLease c.origin)
  | some h =>
    if h = c.origin then (.ok s.loadLease.leaseItems, s.loadLease) else (.other .held s.leaseItems, s)

/-- RENEW (R168). Check 3 has found the origin to be the holder. -/
def doRenew (_ : Call) (s : State) : Reply × State :=
  (.ok s.loadLease.leaseItems, s.loadLease)

/-- YIELD (R169). The response reports the holder, as absent. -/
def doYield (_ : Call) (s : State) : Reply × State :=
  (.ok (itemAddrOpt none), s.clearLease)

/-- TAKEOVER (R170). Check 3 has found the origin to be TAKEOVER_ORIGIN. From the present holder it reports that origin as the
former holder too (DESIGN CHOICE, log 25). -/
def doTakeover (c : Call) (s : State) : Reply × State :=
  match s.session.holder with
  | none => (.ok ((s.giveLease c.origin).leaseItems ++ itemAddrOpt none), s.giveLease c.origin)
  | some h =>
    if h = c.origin then (.ok (s.loadLease.leaseItems ++ itemAddrOpt (some h)), s.loadLease)
    else
      let t := (s.giveLease c.origin).post .leaseLost h.toNat .address
      (.ok (t.leaseItems ++ itemAddrOpt (some h)), t)

/-- The lease timer runs out (R171). -/
def State.leaseExpires (s : State) : State :=
  match s.session.holder with
  | none => s
  | some h => s.clearLease.post .leaseLost h.toNat .address

/-! ### Execution -/

/-- Checks 4 and 5 and the execution, by the entry of the kind (R162). -/
def execRequest (k : RequestKind) (c : Call) (s : State) : Reply × State :=
  match k with
  | .status => doStatus c s
  | .getParam => doGetParam c s
  | .setParam => doSetParam c s
  | .readCounters => doReadCounters c s
  | .clear => doClear c s
  | .setHistory => doSetHistory c s
  | .loadWatch => doLoadWatch c s
  | .clearWatch => doClearWatch c s
  | .getWatch => doGetWatch c s
  | .arm => doArm c s
  | .disarm => doDisarm c s
  | .armGroup => doArmGroup c s
  | .disarmGroup => doDisarmGroup c s
  | .force => doForce c s
  | .loadProfile => doLoadProfile c s
  | .clearProfile => doClearProfile c s
  | .getProfile => doGetProfile c s
  | .abortCapture => doAbortCapture c s
  | .getContexts => doGetContexts c s
  | .formatRing => doFormatRing c s
  | .readSegment => doReadSegment c s
  | .releaseSegment => doReleaseSegment c s
  | .segmentInfo => doSegmentInfo c s
  | .scan => doScan c s
  | .ackNotices => doAckNotices c s
  | .setEventEntry => doSetEventEntry c s
  | .getEventEntry => doGetEventEntry c s
  | .setTime => doSetTime c s
  | .claim => doClaim c s
  | .renew => doRenew c s
  | .yield => doYield c s
  | .takeover => doTakeover c s

/-- The lease timer restarted by a control request from the holder (R166). A request that cleared the holder, YIELD,
restarts nothing. -/
def State.restartLease (s : State) (control : Bool) (origin : Addr) : State :=
  if control && s.session.holder == some origin then s.loadLease else s

/-- A DENIED answer (R162). For the holder's own TAKEOVER the time remaining is before the restart of R166 or after it:
the manual does not say which (R170, log 15). -/
def State.denied (s : State) (k : RequestKind) (c : Call) : Reply × State :=
  if k = .takeover ∧ s.session.holder = some c.origin then
    let t := s.draw.2
    (.other .denied (if s.draw.1 % 2 = 0 then t.leaseItems else t.loadLease.leaseItems), t)
  else (.other .denied s.leaseItems, s)

/-- A request that is not a replay, by the checks of R162, with the restart of R166. -/
def State.dispose (s : State) (code : BitVec 8) (c : Call) : Reply × State :=
  match requestKindOf code with
  | none => (.other .unknown [], s)
  | some k =>
    let held := s.session.holder == some c.origin
    let r :=
      if c.room < k.fixedReply then (Reply.other .room [], s)
      else if s.classOk k c then execRequest k c s
      else s.denied k c
    (r.1, r.2.restartLease (held && k.isControl c.body) c.origin)

/-! ### The origin table and the RESPONSE -/

/-- The entry of an origin as last used, or a new one (R160). -/
def originEntry (o : Addr) (l : List Origin) : Origin :=
  match l.find? fun e => e.addr == o with
  | none => { addr := o, lastSeq := none, cached := none }
  | some e => e

/-- The table less its least recently used entry that is not the lease holder's (R160). -/
def evictOrigin (holder : Option Addr) (l : List Origin) : List Origin :=
  (l.reverse.eraseP fun e => holder != some e.addr).reverse

/-- The entries other than an origin's, with room made for a new one where the table is full (R160). -/
def otherOrigins (holder : Option Addr) (o : Addr) (l : List Origin) : List Origin :=
  if l.any (fun e => e.addr == o) then l.filter fun e => e.addr != o
  else if l.length < Config.maxOrigins then l
  else evictOrigin holder l

/-- The entry of the request's origin found or created, and made the most recently used (R160). -/
def State.touchOrigin (s : State) (o : Addr) : State :=
  { s with session := { s.session with
      origins := originEntry o s.session.origins :: otherOrigins s.session.holder o s.session.origins } }

/-- The cached response that answers a replay, if the request is one (R161). -/
def State.replayOf (s : State) (o : Addr) (seq : BitVec 8) : Option (List Word) :=
  let e := originEntry o s.session.origins
  if e.lastSeq = some seq then e.cached else none

/-- The content of a RESPONSE up to its body: header word, second header word, status word, body (R159, R189). -/
def State.responseWords (s : State) (o : Addr) (seq code : BitVec 8) (replayed : Bool) (r : Reply) : List Word :=
  [headerWord .response o s.strap, seq ++ code, statusWord replayed r.short r.status] ++ r.body

/-- Padding up to the CRC word, so that the frame has the reply room's length (R189). -/
def fillRoom (room : Nat) (content : List Word) : List Word :=
  content ++ paddingWords (room - 1 - content.length)

/-- The content of a cached response with REPLAYED set in its status word (R161). -/
def replayedContent (content : List Word) : List Word :=
  content.modify 2 markReplayed

/-- The answer to a replay: the cached response where it fits, ROOM otherwise (R161). The ROOM answer carries no SHORT,
whatever the cached response carries (DESIGN CHOICE, log 26). -/
def State.replayWords (s : State) (o : Addr) (seq code : BitVec 8) (room : Nat) (cached : List Word) : List Word :=
  if cached.length + 1 ≤ room then fillRoom room (replayedContent cached)
  else fillRoom room (s.responseWords o seq code true (.other .room []))

/-- The origin's entry takes the request's sequence number and its response (R163). -/
def State.cacheResponse (s : State) (o : Addr) (seq : BitVec 8) (content : List Word) : State :=
  { s with session := { s.session with
      origins := s.session.origins.map fun e =>
        if e.addr = o then { addr := o, lastSeq := some seq, cached := some content } else e } }

/-- A REQUEST taken by the handler: the words of its RESPONSE before the CRC, and the state after (R157 to R163). -/
def State.serve (s : State) (origin : Addr) (seq code : BitVec 8) (room : Nat) (body : List Word) :
    List Word × State :=
  let t := s.touchOrigin origin
  match s.replayOf origin seq with
  | some cached => (t.replayWords origin seq code room cached, t.bump .replays 1)
  | none =>
    let r := t.dispose code { origin := origin, room := room, body := body }
    let content := r.2.responseWords origin seq code false r.1
    (fillRoom room content, r.2.cacheResponse origin seq content)

end Sys2Proof.Machine
end

