-- ==== Sys2Proof/Machine/Arrival.lean ====
section
/-! DEFINITION. The arrival of a frame at the loop input (chapter 1): judgement, counting, the routing table of R12, the
mark stamp of R13, and what leaves the output. -/

namespace Sys2Proof.Machine

/-! ### The fields of a routed frame -/

/-- The sweep number of a SWEEP: word 1 (R188). -/
def sweepNumber (ws : List Word) : Sweep := wordOf ws 1

/-- The mark word of a SWEEP: word 2 (R188). -/
def markOf (ws : List Word) : Word := wordOf ws 2

/-- The slots of a SWEEP: the words from word 4 to the one before the CRC (R188). -/
def slotsOf (ws : List Word) : List Sample := (ws.drop 4).dropLast

/-- The event code: bits 3 to 0 of word 1 (R188). -/
def eventCodeOf (ws : List Word) : Fin 16 := Fin.ofNat 16 (wordOf ws 1).toNat

/-- The flag IMMEDIATE: bit 15 of word 1 (R188). -/
def immediateOf (ws : List Word) : Bool := (wordOf ws 1).getLsbD 15

/-- The sequence number of a REQUEST: bits 15 to 8 of word 1 (R188). -/
def sequenceOf (ws : List Word) : BitVec 8 := (wordOf ws 1).extractLsb' 8 8

/-- The kind code of a REQUEST: bits 7 to 0 of word 1 (R188). -/
def requestCodeOf (ws : List Word) : BitVec 8 := (wordOf ws 1).extractLsb' 0 8

/-- The body of a REQUEST: the words from word 2 to the one before the CRC (R188). -/
def bodyOf (ws : List Word) : List Word := (ws.drop 2).dropLast

/-- A SWEEP with mark bits ORed into its mark word and its CRC computed anew; no bits leave it as received (R13). -/
def stamped (mark : Word) (ws : List Word) : List Word :=
  if mark = 0 then ws else withCrc ((ws.set 2 (markOf ws ||| mark)).dropLast)

/-! ### Routing -/

/-- The rows of the routing table of R12. -/
inductive Route where
  | sweep
  | badRequest
  | request
  | eventBroadcast
  | eventOwn
  | resetBroadcast
  | resetOwn
  | ownFrame
  | offered
  | other
  deriving DecidableEq, Repr

/-- The first row of R12 that a valid frame matches at a node with this address. -/
def routeOf (own : Addr) (ws : List Word) : Route :=
  match kindOf ws with
  | none => .other
  | some .sweep => .sweep
  | some .request => if srcOf ws = broadcast then .badRequest else if destOf ws = own then .request else .other
  | some .event =>
    if destOf ws = broadcast then .eventBroadcast else if destOf ws = own then .eventOwn else .other
  | some .reset =>
    if srcOf ws = 0 then
      if destOf ws = broadcast then .resetBroadcast else if destOf ws = own then .resetOwn else .other
    else .other
  | some .response | some .notice => if srcOf ws = own then .ownFrame else .other
  | some .idle => if 16 ≤ ws.length then .offered else .other
  | some .brk => .other

/-- Row 1: the sweep leaves with the pending mark word stamped in, which is cleared, and is handed on with the mark word as
received (R13). -/
def State.routeSweep (s : State) (ws : List Word) : State :=
  let t := s.emit (.frame (stamped s.port.markWord ws))
  { t with port := { t.port with markWord := 0 } }.acceptSweep (sweepNumber ws) (markOf ws) (slotsOf ws)

/-- Consumption into a non-damaged IDLE of the same length (R12). -/
def State.consume (s : State) (ws : List Word) : State :=
  s.emit (.frame (idleFrame false ws.length))

/-- Row 3: the RESPONSE takes the REQUEST's place (R15). -/
def State.routeRequest (s : State) (ws : List Word) : State :=
  let r := s.serve (srcOf ws) (sequenceOf ws) (requestCodeOf ws) ws.length (bodyOf ws)
  r.2.emit (.frame (withCrc r.1))

/-- Row 9: the NOTICE, or the IDLE unchanged (R16). -/
def State.routeIdle (s : State) (ws : List Word) : State :=
  s.offer.2.emit (.frame (s.offer.1.getD ws))

/-- A valid frame routed at an addressed node in UP (R12). -/
def State.route (s : State) (ws : List Word) : State :=
  match routeOf s.strap ws with
  | .sweep => s.routeSweep ws
  | .badRequest => s.consume ws
  | .request => s.routeRequest ws
  | .eventBroadcast => (s.emit (.frame ws)).eventArrives (eventCodeOf ws) (immediateOf ws)
  | .eventOwn => (s.consume ws).eventArrives (eventCodeOf ws) (immediateOf ws)
  | .resetBroadcast => (s.emit (.frame ws)).loopReset
  | .resetOwn => (s.consume ws).loopReset
  | .ownFrame => s.consume ws
  | .offered => s.routeIdle ws
  | .other => s.emit (.frame ws)

/-- The port counts a valid frame (R4). -/
def State.countValid (s : State) : State :=
  { s with port := s.port.countValid }

/-- A frame that arrives in UP (R4, R6, R11, R12). -/
def State.upArrives (s : State) (ws : List Word) : State :=
  if frameValid ws then
    if s.addressed then s.countValid.route ws else s.countValid.emit (.frame ws)
  else s.damagedArrives ws

/-- The arrival of a frame, its CRC word last. While RESETn is low it is copied (R9); in DOWN it is no arrival, since only a
start delimiter ends DOWN (R3, log 8). -/
def State.arrive (s : State) (ws : List Word) : State :=
  if s.resetLow then s.emit (.frame ws)
  else
    match s.port.link with
    | .down => s
    | .hunt => if frameValid ws then s.huntValid ws else s.damagedArrives ws
    | .up => s.upArrives ws

end Sys2Proof.Machine
end

