-- ==== Sys2Proof/Machine/Commands.lean ====
section
/-! DEFINITION. The meanings of the 56 commands, one definition each, over the shared operations. -/

namespace Sys2Proof.Machine

open Host (Outcome)

/-! ### The pins and the link -/

/-- What ends the bit copy: the words of a frame being copied at that moment, cut short, and the switch (R9). -/
def releaseItems (copied : List Word) : List OutItem :=
  (if copied = [] then [] else [.cutShort copied]) ++ [.copyEnds]

/-- POWER_ON_RESET_RELEASE (R9, R176). The pins TIN0 and TIN1 keep their levels. -/
def execPowerOnResetRelease (straps : Addr) (copied : List Word) (s : State) : Outcome State Fault Refusal :=
  .next (State.released straps s.lines.tin0.level s.lines.tin1.level (s.port.out ++ releaseItems copied) s.script s.draws
    s.pending)

/-- A whole frame. -/
def OutItem.isFrame : OutItem → Bool
  | .frame _ => true
  | .cutShort _ | .copyStarts | .copyEnds => false

/-- The output less its last `waiting` frames, as far back as there are frames at its end. What left before the switch to the
copy or back from it has left (R9, log 9). -/
def dropWaiting (out : List OutItem) (waiting : Nat) : List OutItem :=
  out.take (out.length - min waiting (out.reverse.takeWhile OutItem.isFrame).length)

/-- The last item of the output cut to its first words, where it is a whole frame (R9). -/
def cutLast (out : List OutItem) (k : Nat) : List OutItem :=
  match out.getLast? with
  | some (.frame ws) => if k < ws.length then out.dropLast ++ [.cutShort (ws.take k)] else out
  | some (.cutShort _) | some .copyStarts | some .copyEnds | none => out

/-- The output at the fall of RESETn: the frames that wait to leave never do, the frame in transmission before them is cut
short, and the copy starts (R9). -/
def fallOut (out : List OutItem) (x : Transmission) : List OutItem :=
  (match x.sent with
    | none => dropWaiting out x.waiting
    | some k => cutLast (dropWaiting out x.waiting) k) ++ [.copyStarts]

/-- RESETN_FALL (R9, R154): the copy starts, a frame in transmission is cut short, frames that wait to leave do not, a pulse
is ended. The other state is held until the release replaces it (log 20). -/
def execResetnFall (sent : Transmission) (s : State) : Outcome State Fault Refusal :=
  .next (if s.resetLow then s
    else
      { s with
        resetLow := true
        port := { s.port with out := fallOut s.port.out sent }
        lines := { s.lines with tout0 := none, tout1 := none } })

/-- SEND_BREAK (R3): in DOWN the next BREAK frame leaves. -/
def execSendBreak (s : State) : Outcome State Fault Refusal :=
  .next (if !s.resetLow && s.port.link == .down then s.emit (.frame (breakFrame s.strap)) else s)

/-- START_DELIMITER (R3): in DOWN, with signal present, the link enters HUNT. -/
def execStartDelimiter (signal : Bool) (s : State) : Outcome State Fault Refusal :=
  .next (if !s.resetLow && signal && s.port.link == .down then s.downToHunt else s)

/-- LOSS_OF_SIGNAL (R5): HUNT and UP go to DOWN; DOWN stays (R3). -/
def execLossOfSignal (s : State) : Outcome State Fault Refusal :=
  .next (if s.resetLow then s else s.enterDown)

/-- SILENCE_TIMER_EXPIRY (R5); the timer is stopped in DOWN (R3). -/
def execSilenceTimerExpiry (s : State) : Outcome State Fault Refusal :=
  .next (if s.resetLow || s.port.silence.isNone then s else s.enterDown)

/-! ### Frames -/

/-- DAMAGED_FRAME (R6), with the words as received. -/
def execDamagedFrame (words : List Word) (s : State) : Outcome State Fault Refusal :=
  .next (s.arrive words)

/-- FORWARD_FRAME (R11, R12). -/
def execForwardFrame (words : List Word) (s : State) : Outcome State Fault Refusal :=
  .next (s.arrive (withCrc words))

/-- CONSUME_OWN_FRAME (R12). -/
def execConsumeOwnFrame (words : List Word) (s : State) : Outcome State Fault Refusal :=
  .next (s.arrive (withCrc words))

/-- SWEEP_ARRIVAL (R13, R20). -/
def execSweepArrival (h : Header) (number mark countWord : Word) (slots : List Word) (s : State) :
    Outcome State Fault Refusal :=
  .next (s.arrive (withCrc (sweepWords h number mark countWord slots)))

/-- IDLE_OFFER (R16, R130). -/
def execIdleOffer (h : Header) (second : Word) (padding : List Word) (s : State) : Outcome State Fault Refusal :=
  .next (s.arrive (withCrc (plainWords .idle h second padding)))

/-- EVENT_ARRIVAL (R142). -/
def execEventArrival (h : Header) (second : Word) (padding : List Word) (s : State) : Outcome State Fault Refusal :=
  .next (s.arrive (withCrc (plainWords .event h second padding)))

/-- LOOP_RESET (R14). -/
def execLoopReset (h : Header) (second : Word) (padding : List Word) (s : State) : Outcome State Fault Refusal :=
  .next (s.arrive (withCrc (plainWords .reset h second padding)))

/-! ### Timers and trigger inputs -/

/-- RESEND_TIMER_RUN_OUT (R133). -/
def execResendTimerRunOut (number : BitVec 8) (s : State) : Outcome State Fault Refusal :=
  .next (if s.resetLow then s else s.resendRunsOut number)

/-- EVENT_EXPIRY (R143). -/
def execEventExpiry (place : Nat) (s : State) : Outcome State Fault Refusal :=
  .next (if s.resetLow then s else s.eventExpires place)

/-- TIN_LEVEL_CHANGE (R151, R154). -/
def execTinLevelChange (line : Line) (high : Bool) (s : State) : Outcome State Fault Refusal :=
  .next (s.levelChanges line high)

/-- CANDIDATE_TIMER_RUN_OUT (R151, R152). -/
def execCandidateTimerRunOut (line : Line) (s : State) : Outcome State Fault Refusal :=
  .next (if s.resetLow then s else s.candidateRunsOut line)

/-- PULSE_TIMER_RUN_OUT (R153). While RESETn is low both lines are at rest already (R154). -/
def execPulseTimerRunOut (line : Line) (s : State) : Outcome State Fault Refusal :=
  .next (if s.resetLow then s else s.pulseRunsOut line)

/-- LEASE_EXPIRY (R171). -/
def execLeaseExpiry (s : State) : Outcome State Fault Refusal :=
  .next (if s.resetLow then s else s.leaseExpires)

/-! ### Requests

Each is the arrival of a REQUEST frame whose kind code is the row's (R189). The port judges and routes it (R2, R12), the
handler checks it (R161, R162), and the kind's entry acts on it. -/

/-- The arrival of a REQUEST with a kind code. -/
def State.requestArrives (s : State) (r : Request) (code : BitVec 8) : State :=
  s.arrive (withCrc (requestWords r code))

/-- UNKNOWN_REQUEST (R162). -/
def execUnknownRequest (r : Request) (code : BitVec 8) (s : State) : Outcome State Fault Refusal :=
  .next (s.requestArrives r code)

/-- STATUS (R181). -/
def execStatus (r : Request) (s : State) : Outcome State Fault Refusal :=
  .next (s.requestArrives r RequestKind.status.code)

/-- GET_PARAM (R179). -/
def execGetParam (r : Request) (s : State) : Outcome State Fault Refusal :=
  .next (s.requestArrives r RequestKind.getParam.code)

/-- SET_PARAM (R180). -/
def execSetParam (r : Request) (s : State) : Outcome State Fault Refusal :=
  .next (s.requestArrives r RequestKind.setParam.code)

/-- READ_COUNTERS (R183). -/
def execReadCounters (r : Request) (s : State) : Outcome State Fault Refusal :=
  .next (s.requestArrives r RequestKind.readCounters.code)

/-- READ_COUNTERS_CLEAR (R183). -/
def execReadCountersClear (r : Request) (s : State) : Outcome State Fault Refusal :=
  .next (s.requestArrives r RequestKind.readCounters.code)

/-- CLEAR_TABLES (R184). -/
def execClearTables (r : Request) (s : State) : Outcome State Fault Refusal :=
  .next (s.requestArrives r RequestKind.clear.code)

/-- CLEAR_CAPTURES (R122). -/
def execClearCaptures (r : Request) (s : State) : Outcome State Fault Refusal :=
  .next (s.requestArrives r RequestKind.clear.code)

/-- CLEAR_NOTICES (R139). -/
def execClearNotices (r : Request) (s : State) : Outcome State Fault Refusal :=
  .next (s.requestArrives r RequestKind.clear.code)

/-- SET_HISTORY (R30). -/
def execSetHistory (r : Request) (s : State) : Outcome State Fault Refusal :=
  .next (s.requestArrives r RequestKind.setHistory.code)

/-- LOAD_WATCH (R40). -/
def execLoadWatch (r : Request) (s : State) : Outcome State Fault Refusal :=
  .next (s.requestArrives r RequestKind.loadWatch.code)

/-- CLEAR_WATCH (R42). -/
def execClearWatch (r : Request) (s : State) : Outcome State Fault Refusal :=
  .next (s.requestArrives r RequestKind.clearWatch.code)

/-- GET_WATCH (R43). -/
def execGetWatch (r : Request) (s : State) : Outcome State Fault Refusal :=
  .next (s.requestArrives r RequestKind.getWatch.code)

/-- ARM (R44). -/
def execArm (r : Request) (s : State) : Outcome State Fault Refusal :=
  .next (s.requestArrives r RequestKind.arm.code)

/-- DISARM (R45). -/
def execDisarm (r : Request) (s : State) : Outcome State Fault Refusal :=
  .next (s.requestArrives r RequestKind.disarm.code)

/-- ARM_GROUP (R47). -/
def execArmGroup (r : Request) (s : State) : Outcome State Fault Refusal :=
  .next (s.requestArrives r RequestKind.armGroup.code)

/-- DISARM_GROUP (R48). -/
def execDisarmGroup (r : Request) (s : State) : Outcome State Fault Refusal :=
  .next (s.requestArrives r RequestKind.disarmGroup.code)

/-- FORCE (R73). -/
def execForce (r : Request) (s : State) : Outcome State Fault Refusal :=
  .next (s.requestArrives r RequestKind.force.code)

/-- LOAD_PROFILE (R78). -/
def execLoadProfile (r : Request) (s : State) : Outcome State Fault Refusal :=
  .next (s.requestArrives r RequestKind.loadProfile.code)

/-- CLEAR_PROFILE (R80). -/
def execClearProfile (r : Request) (s : State) : Outcome State Fault Refusal :=
  .next (s.requestArrives r RequestKind.clearProfile.code)

/-- GET_PROFILE (R81). -/
def execGetProfile (r : Request) (s : State) : Outcome State Fault Refusal :=
  .next (s.requestArrives r RequestKind.getProfile.code)

/-- ABORT_CAPTURE (R94). -/
def execAbortCapture (r : Request) (s : State) : Outcome State Fault Refusal :=
  .next (s.requestArrives r RequestKind.abortCapture.code)

/-- GET_CONTEXTS (R99). -/
def execGetContexts (r : Request) (s : State) : Outcome State Fault Refusal :=
  .next (s.requestArrives r RequestKind.getContexts.code)

/-- FORMAT_RING (R102). -/
def execFormatRing (r : Request) (s : State) : Outcome State Fault Refusal :=
  .next (s.requestArrives r RequestKind.formatRing.code)

/-- FORMAT_RING_FORCE (R103). -/
def execFormatRingForce (r : Request) (s : State) : Outcome State Fault Refusal :=
  .next (s.requestArrives r RequestKind.formatRing.code)

/-- READ_SEGMENT (R114). -/
def execReadSegment (r : Request) (s : State) : Outcome State Fault Refusal :=
  .next (s.requestArrives r RequestKind.readSegment.code)

/-- RELEASE_SEGMENT (R117). -/
def execReleaseSegment (r : Request) (s : State) : Outcome State Fault Refusal :=
  .next (s.requestArrives r RequestKind.releaseSegment.code)

/-- SEGMENT_INFO (R118). -/
def execSegmentInfo (r : Request) (s : State) : Outcome State Fault Refusal :=
  .next (s.requestArrives r RequestKind.segmentInfo.code)

/-- SCAN (R119). -/
def execScan (r : Request) (s : State) : Outcome State Fault Refusal :=
  .next (s.requestArrives r RequestKind.scan.code)

/-- ACK_NOTICES (R135). -/
def execAckNotices (r : Request) (s : State) : Outcome State Fault Refusal :=
  .next (s.requestArrives r RequestKind.ackNotices.code)

/-- SET_EVENT_ENTRY (R145). -/
def execSetEventEntry (r : Request) (s : State) : Outcome State Fault Refusal :=
  .next (s.requestArrives r RequestKind.setEventEntry.code)

/-- GET_EVENT_ENTRY (R146). -/
def execGetEventEntry (r : Request) (s : State) : Outcome State Fault Refusal :=
  .next (s.requestArrives r RequestKind.getEventEntry.code)

/-- SET_TIME (R150). -/
def execSetTime (r : Request) (s : State) : Outcome State Fault Refusal :=
  .next (s.requestArrives r RequestKind.setTime.code)

/-- CLAIM (R167). -/
def execClaim (r : Request) (s : State) : Outcome State Fault Refusal :=
  .next (s.requestArrives r RequestKind.claim.code)

/-- RENEW (R168). -/
def execRenew (r : Request) (s : State) : Outcome State Fault Refusal :=
  .next (s.requestArrives r RequestKind.renew.code)

/-- YIELD (R169). -/
def execYield (r : Request) (s : State) : Outcome State Fault Refusal :=
  .next (s.requestArrives r RequestKind.yield.code)

/-- TAKEOVER (R170). -/
def execTakeover (r : Request) (s : State) : Outcome State Fault Refusal :=
  .next (s.requestArrives r RequestKind.takeover.code)

end Sys2Proof.Machine
end

