-- ==== Sys2Proof/Machine/Dispatch.lean ====
section
/-! DEFINITION. The dispatch: one arm per command, each one call of its meaning. -/

namespace Sys2Proof.Machine

def exec (i : Instr) (s : State) : Host.Outcome State Fault Refusal :=
  match i with
  | .powerOnResetRelease straps copied => Sys2Proof.Machine.execPowerOnResetRelease straps copied s
  | .resetnFall sent => Sys2Proof.Machine.execResetnFall sent s
  | .sendBreak => Sys2Proof.Machine.execSendBreak s
  | .startDelimiter signal => Sys2Proof.Machine.execStartDelimiter signal s
  | .lossOfSignal => Sys2Proof.Machine.execLossOfSignal s
  | .silenceTimerExpiry => Sys2Proof.Machine.execSilenceTimerExpiry s
  | .damagedFrame words => Sys2Proof.Machine.execDamagedFrame words s
  | .forwardFrame words => Sys2Proof.Machine.execForwardFrame words s
  | .consumeOwnFrame words => Sys2Proof.Machine.execConsumeOwnFrame words s
  | .sweepArrival h number mark countWord slots => Sys2Proof.Machine.execSweepArrival h number mark countWord slots s
  | .idleOffer h second padding => Sys2Proof.Machine.execIdleOffer h second padding s
  | .resendTimerRunOut number => Sys2Proof.Machine.execResendTimerRunOut number s
  | .eventArrival h second padding => Sys2Proof.Machine.execEventArrival h second padding s
  | .eventExpiry place => Sys2Proof.Machine.execEventExpiry place s
  | .tinLevelChange line high => Sys2Proof.Machine.execTinLevelChange line high s
  | .candidateTimerRunOut line => Sys2Proof.Machine.execCandidateTimerRunOut line s
  | .pulseTimerRunOut line => Sys2Proof.Machine.execPulseTimerRunOut line s
  | .leaseExpiry => Sys2Proof.Machine.execLeaseExpiry s
  | .loopReset h second padding => Sys2Proof.Machine.execLoopReset h second padding s
  | .unknownRequest r code => Sys2Proof.Machine.execUnknownRequest r code s
  | .status r => Sys2Proof.Machine.execStatus r s
  | .getParam r => Sys2Proof.Machine.execGetParam r s
  | .setParam r => Sys2Proof.Machine.execSetParam r s
  | .readCounters r => Sys2Proof.Machine.execReadCounters r s
  | .readCountersClear r => Sys2Proof.Machine.execReadCountersClear r s
  | .clearTables r => Sys2Proof.Machine.execClearTables r s
  | .clearCaptures r => Sys2Proof.Machine.execClearCaptures r s
  | .clearNotices r => Sys2Proof.Machine.execClearNotices r s
  | .setHistory r => Sys2Proof.Machine.execSetHistory r s
  | .loadWatch r => Sys2Proof.Machine.execLoadWatch r s
  | .clearWatch r => Sys2Proof.Machine.execClearWatch r s
  | .getWatch r => Sys2Proof.Machine.execGetWatch r s
  | .arm r => Sys2Proof.Machine.execArm r s
  | .disarm r => Sys2Proof.Machine.execDisarm r s
  | .armGroup r => Sys2Proof.Machine.execArmGroup r s
  | .disarmGroup r => Sys2Proof.Machine.execDisarmGroup r s
  | .force r => Sys2Proof.Machine.execForce r s
  | .loadProfile r => Sys2Proof.Machine.execLoadProfile r s
  | .clearProfile r => Sys2Proof.Machine.execClearProfile r s
  | .getProfile r => Sys2Proof.Machine.execGetProfile r s
  | .abortCapture r => Sys2Proof.Machine.execAbortCapture r s
  | .getContexts r => Sys2Proof.Machine.execGetContexts r s
  | .formatRing r => Sys2Proof.Machine.execFormatRing r s
  | .formatRingForce r => Sys2Proof.Machine.execFormatRingForce r s
  | .readSegment r => Sys2Proof.Machine.execReadSegment r s
  | .releaseSegment r => Sys2Proof.Machine.execReleaseSegment r s
  | .segmentInfo r => Sys2Proof.Machine.execSegmentInfo r s
  | .scan r => Sys2Proof.Machine.execScan r s
  | .ackNotices r => Sys2Proof.Machine.execAckNotices r s
  | .setEventEntry r => Sys2Proof.Machine.execSetEventEntry r s
  | .getEventEntry r => Sys2Proof.Machine.execGetEventEntry r s
  | .setTime r => Sys2Proof.Machine.execSetTime r s
  | .claim r => Sys2Proof.Machine.execClaim r s
  | .renew r => Sys2Proof.Machine.execRenew r s
  | .yield r => Sys2Proof.Machine.execYield r s
  | .takeover r => Sys2Proof.Machine.execTakeover r s

end Sys2Proof.Machine
end

