-- ==== Sys2Proof/Machine/Step.lean ====
section
/-! DEFINITION. The step: the command at the front of the queue, or the passing of 100 ns where the queue is empty. -/

namespace Sys2Proof.Machine

/-- A resend timer over one tick. -/
def Notice.tick (n : Notice) : Notice :=
  { n with sent := n.sent.map fun x => { x with timer := tickTimer x.timer } }

/-- A delay timer over one tick; its last tick is the expiry's own (log 5). -/
def WaitingEvent.tick (w : WaitingEvent) : WaitingEvent :=
  { w with ticks := if w.ticks ≤ 1 then w.ticks else w.ticks - 1 }

/-- The time of 100 ns (R149): the time base counts and every running timer falls. While RESETn is low nothing runs (R154,
R173). DESIGN CHOICE, log 4. -/
def State.tick (s : State) : State :=
  if s.resetLow then s
  else
    { s with
      port := { s.port with silence := tickTimer s.port.silence }
      notices := { s.notices with queue := s.notices.queue.map Notice.tick }
      events := { s.events with
        waiting := s.events.waiting.map WaitingEvent.tick
        timeBase := s.events.timeBase + 1 }
      lines :=
        { tin0 := { s.lines.tin0 with timer := tickTimer s.lines.tin0.timer }
          tin1 := { s.lines.tin1 with timer := tickTimer s.lines.tin1.timer }
          tout0 := tickTimer s.lines.tout0
          tout1 := tickTimer s.lines.tout1 }
      session := { s.session with leaseTimer := tickTimer s.session.leaseTimer } }

/-- One step of the block: the command at the front of its queue, or a tick. -/
def step (s : State) : Host.Outcome State Fault Refusal :=
  match s.pending with
  | [] => .next s.tick
  | c :: rest => exec c { s with pending := rest }

/-- The state with the command that a word spells in front of its queue, and the state itself where it spells none. -/
def State.withFetchWord (s : State) (nbits w : Nat) : State :=
  match decodeTableWord nbits w with
  | none => s
  | some c => { s with pending := c :: s.pending }

end Sys2Proof.Machine
end

