-- ==== Sys2Proof/Safety.lean ====
section
/-! DEFINITION. The terms in which claims are stated: when a frame is heard, when a request reaches its own effect, the state
after an answered request, and the invariants that the manual states of the blocks. -/

namespace Sys2Proof

/-- The length of the REQUEST's frame, which is its reply room (R158). -/
def Request.room (r : Request) : Nat := r.body.length + 3

/-- Body word `n` of the request as a number; 0 where the body is shorter. -/
def Request.number (r : Request) (n : Nat) : Nat := (r.body.getD n 0).toNat

end Sys2Proof

namespace Sys2Proof.Machine

/-! ### Frames and requests that are heard -/

/-- RESETn is high and the link is UP at an addressed node: frames are routed by R12. -/
abbrev State.hears (s : State) : Prop :=
  s.resetLow = false ∧ s.port.link = .up ∧ s.addressed = true

/-- RESETn is high and the link is HUNT or UP: frames are received (R4, R19). -/
abbrev State.receives (s : State) : Prop :=
  s.resetLow = false ∧ s.port.link ≠ .down

/-- The request reaches the handler of this node: a frame of 8 to 264 words, to the node's address, not from 63 (R2, R12). -/
abbrev State.reached (s : State) (r : Request) : Prop :=
  s.hears ∧ r.dest = s.strap ∧ r.src ≠ broadcast ∧ 5 ≤ r.body.length ∧ r.body.length ≤ 261

/-- The request is no replay: its origin has no entry whose last sequence number is the request's (R161). -/
abbrev State.isNew (s : State) (r : Request) : Prop :=
  ∀ e ∈ s.session.origins, e.addr = r.src → e.lastSeq ≠ some r.seq

/-- The request reaches the handler, is new, and its fixed reply fits (R161, R162). -/
abbrev State.admits (s : State) (r : Request) (k : RequestKind) : Prop :=
  s.reached r ∧ s.isNew r ∧ k.fixedReply ≤ r.room

/-- An admitted request of the lease holder: it passes check 3 of R162 for every control request (R164). -/
abbrev State.permits (s : State) (r : Request) (k : RequestKind) : Prop :=
  s.admits r k ∧ s.session.holder = some r.src

/-- The request and the request kind of a command that is a REQUEST of a known kind; CLEAR, READ COUNTERS and FORMAT RING are
several rows of one kind each (log 19). -/
def requestOf : Instr → Option (Request × RequestKind)
  | .status r => some (r, .status)
  | .getParam r => some (r, .getParam)
  | .setParam r => some (r, .setParam)
  | .readCounters r => some (r, .readCounters)
  | .readCountersClear r => some (r, .readCounters)
  | .clearTables r => some (r, .clear)
  | .clearCaptures r => some (r, .clear)
  | .clearNotices r => some (r, .clear)
  | .setHistory r => some (r, .setHistory)
  | .loadWatch r => some (r, .loadWatch)
  | .clearWatch r => some (r, .clearWatch)
  | .getWatch r => some (r, .getWatch)
  | .arm r => some (r, .arm)
  | .disarm r => some (r, .disarm)
  | .armGroup r => some (r, .armGroup)
  | .disarmGroup r => some (r, .disarmGroup)
  | .force r => some (r, .force)
  | .loadProfile r => some (r, .loadProfile)
  | .clearProfile r => some (r, .clearProfile)
  | .getProfile r => some (r, .getProfile)
  | .abortCapture r => some (r, .abortCapture)
  | .getContexts r => some (r, .getContexts)
  | .formatRing r => some (r, .formatRing)
  | .formatRingForce r => some (r, .formatRing)
  | .readSegment r => some (r, .readSegment)
  | .releaseSegment r => some (r, .releaseSegment)
  | .segmentInfo r => some (r, .segmentInfo)
  | .scan r => some (r, .scan)
  | .ackNotices r => some (r, .ackNotices)
  | .setEventEntry r => some (r, .setEventEntry)
  | .getEventEntry r => some (r, .getEventEntry)
  | .setTime r => some (r, .setTime)
  | .claim r => some (r, .claim)
  | .renew r => some (r, .renew)
  | .yield r => some (r, .yield)
  | .takeover r => some (r, .takeover)
  | .powerOnResetRelease _ _ | .resetnFall _ | .sendBreak | .startDelimiter _ | .lossOfSignal | .silenceTimerExpiry
  | .damagedFrame _ | .forwardFrame _ | .consumeOwnFrame _ | .sweepArrival _ _ _ _ _ | .idleOffer _ _ _
  | .resendTimerRunOut _ | .eventArrival _ _ _ | .eventExpiry _ | .tinLevelChange _ _ | .candidateTimerRunOut _
  | .pulseTimerRunOut _ | .leaseExpiry | .loopReset _ _ _ | .unknownRequest _ _ => none

/-- The words of a frame command as they arrive, its CRC word last; none for the other commands. -/
def frameOf : Instr → Option (List Word)
  | .damagedFrame words => some words
  | .forwardFrame words => some (withCrc words)
  | .consumeOwnFrame words => some (withCrc words)
  | .sweepArrival h n m c slots => some (withCrc (sweepWords h n m c slots))
  | .idleOffer h second padding => some (withCrc (plainWords .idle h second padding))
  | .eventArrival h second padding => some (withCrc (plainWords .event h second padding))
  | .loopReset h second padding => some (withCrc (plainWords .reset h second padding))
  | .unknownRequest r code => some (withCrc (requestWords r code))
  | .powerOnResetRelease _ _ | .resetnFall _ | .sendBreak | .startDelimiter _ | .lossOfSignal | .silenceTimerExpiry
  | .resendTimerRunOut _ | .eventExpiry _ | .tinLevelChange _ _ | .candidateTimerRunOut _ | .pulseTimerRunOut _
  | .leaseExpiry => none
  | .status r => some (withCrc (requestWords r RequestKind.status.code))
  | .getParam r => some (withCrc (requestWords r RequestKind.getParam.code))
  | .setParam r => some (withCrc (requestWords r RequestKind.setParam.code))
  | .readCounters r => some (withCrc (requestWords r RequestKind.readCounters.code))
  | .readCountersClear r => some (withCrc (requestWords r RequestKind.readCounters.code))
  | .clearTables r => some (withCrc (requestWords r RequestKind.clear.code))
  | .clearCaptures r => some (withCrc (requestWords r RequestKind.clear.code))
  | .clearNotices r => some (withCrc (requestWords r RequestKind.clear.code))
  | .setHistory r => some (withCrc (requestWords r RequestKind.setHistory.code))
  | .loadWatch r => some (withCrc (requestWords r RequestKind.loadWatch.code))
  | .clearWatch r => some (withCrc (requestWords r RequestKind.clearWatch.code))
  | .getWatch r => some (withCrc (requestWords r RequestKind.getWatch.code))
  | .arm r => some (withCrc (requestWords r RequestKind.arm.code))
  | .disarm r => some (withCrc (requestWords r RequestKind.disarm.code))
  | .armGroup r => some (withCrc (requestWords r RequestKind.armGroup.code))
  | .disarmGroup r => some (withCrc (requestWords r RequestKind.disarmGroup.code))
  | .force r => some (withCrc (requestWords r RequestKind.force.code))
  | .loadProfile r => some (withCrc (requestWords r RequestKind.loadProfile.code))
  | .clearProfile r => some (withCrc (requestWords r RequestKind.clearProfile.code))
  | .getProfile r => some (withCrc (requestWords r RequestKind.getProfile.code))
  | .abortCapture r => some (withCrc (requestWords r RequestKind.abortCapture.code))
  | .getContexts r => some (withCrc (requestWords r RequestKind.getContexts.code))
  | .formatRing r => some (withCrc (requestWords r RequestKind.formatRing.code))
  | .formatRingForce r => some (withCrc (requestWords r RequestKind.formatRing.code))
  | .readSegment r => some (withCrc (requestWords r RequestKind.readSegment.code))
  | .releaseSegment r => some (withCrc (requestWords r RequestKind.releaseSegment.code))
  | .segmentInfo r => some (withCrc (requestWords r RequestKind.segmentInfo.code))
  | .scan r => some (withCrc (requestWords r RequestKind.scan.code))
  | .ackNotices r => some (withCrc (requestWords r RequestKind.ackNotices.code))
  | .setEventEntry r => some (withCrc (requestWords r RequestKind.setEventEntry.code))
  | .getEventEntry r => some (withCrc (requestWords r RequestKind.getEventEntry.code))
  | .setTime r => some (withCrc (requestWords r RequestKind.setTime.code))
  | .claim r => some (withCrc (requestWords r RequestKind.claim.code))
  | .renew r => some (withCrc (requestWords r RequestKind.renew.code))
  | .yield r => some (withCrc (requestWords r RequestKind.yield.code))
  | .takeover r => some (withCrc (requestWords r RequestKind.takeover.code))

/-- The bit of an action mark code in the mark word, no bit where the code is absent (R17). -/
def askedMark (o : Option (Fin 16)) : BitVec 16 :=
  match o with
  | none => 0
  | some m => 1#16 <<< m.val

/-- The lease holder, FFFFh where absent, and the time remaining in units of 10 ms rounded up, 0 where absent (R165, R190). -/
def State.leaseWords (s : State) : List Word :=
  match s.session.holder, s.session.leaseTimer with
  | none, _ => [0xFFFF, 0]
  | some h, none => [BitVec.ofNat 16 h.toNat, 0]
  | some h, some t => [BitVec.ofNat 16 h.toNat, BitVec.ofNat 16 ((t + 99999) / 100000)]

/-- The first words of a RESPONSE without REPLAYED: header word, second header word, status word, body (R159, R188). -/
def responseTo (strap : Addr) (r : Request) (code : BitVec 8) (a : Reply) : List Word :=
  [headerWord .response r.src strap, r.seq ++ code, statusWord false a.short a.status] ++ a.body

/-- The RESPONSE frame: those words, padding up to the reply room, the CRC (R15, R189). -/
def responseFrame (strap : Addr) (r : Request) (code : BitVec 8) (a : Reply) : List Word :=
  withCrc (responseTo strap r code a ++ paddingWords (r.room - 1 - (responseTo strap r code a).length))

/-- The state after a new request that node `s` has taken and answered, where `t` is `s` with the request's own effect and
`lease` is the lease timer after it: the frame is counted (R4), the RESPONSE leaves (R15), the origin's entry is the most
recently used and holds the sequence number and the response (R160, R163). -/
def State.answered (s t : State) (r : Request) (code : BitVec 8) (a : Reply) (lease : Timer) : State :=
  { t with
    port := { t.port with
      validCount := min (s.port.validCount + 1) 4
      damagedCount := 0
      silence := some Config.silenceTicks
      out := s.port.out ++ [.frame (responseFrame s.strap r code a)] }
    session := { t.session with
      origins := { addr := r.src, lastSeq := some r.seq, cached := some (responseTo s.strap r code a) } ::
        otherOrigins s.session.holder r.src s.session.origins
      leaseTimer := lease } }

/-- Answered with the lease timer as the effect leaves it: an observe request (R166). -/
def State.observed (s t : State) (r : Request) (k : RequestKind) (a : Reply) : State :=
  s.answered t r k.code a t.session.leaseTimer

/-- Answered with the lease timer restarted: a control request of the holder (R166). -/
def State.controlled (s t : State) (r : Request) (k : RequestKind) (a : Reply) : State :=
  s.answered t r k.code a (some (t.params.leaseTime * Config.leaseUnitTicks))

/-- The state after a valid frame that is heard, apart from its effect: the frame is counted and `ws` leaves. -/
def State.heard (s : State) (ws : List Word) : State :=
  { s with port := { s.port with
      validCount := min (s.port.validCount + 1) 4
      damagedCount := 0
      silence := some Config.silenceTicks
      out := s.port.out ++ [.frame ws] } }

/-! ### Invariants of the blocks -/

/-- The port: the counts stay below the values that change the link, and the silence timer runs exactly out of DOWN
(R3, R4, R5). -/
structure State.PortInv (s : State) : Prop where
  valid : s.port.validCount ≤ 4
  damaged : s.port.damagedCount ≤ 8
  silence : s.port.silence = none ↔ s.port.link = .down

/-- The receiver: at most 1024 rows, none while no sweep is expected, a set of at most 32 distinct slots, and rows of one
value for each of its positions (R27, R28). -/
structure State.ReceiverInv (s : State) : Prop where
  rows : s.receiver.history.length ≤ Config.maxHistory
  started : s.receiver.expected = none → s.receiver.history = []
  set : s.receiver.historySet.length ≤ 32
  distinct : s.receiver.historySet.Nodup
  widths : ∀ row ∈ s.receiver.history, row.values.length = s.receiver.historySet.length

/-- The notice queue (R127): at most 32 entries, at most 8 of them SENT. -/
structure State.NoticeInv (s : State) : Prop where
  entries : s.notices.queue.length ≤ Config.maxNotices
  sent : sentCount s.notices.queue ≤ Config.maxSent

/-- No two QUEUED entries share both kind and subject (R127). -/
abbrev State.QueuedDistinct (s : State) : Prop :=
  s.notices.queue.Pairwise fun m n => m.queued = true → n.queued = true → m.sameAs n = false

/-- The numbers of SENT entries are distinct (R131). -/
abbrev State.NumbersDistinct (s : State) : Prop :=
  ((s.notices.queue.filterMap Notice.sent).map Sent.number).Nodup

/-- The session (R160, R165): at most 4 origins, no two the same, the timer runs exactly while there is a holder, whose
entry is in the table, and what is cached is the content of a RESPONSE (R163). -/
structure State.SessionInv (s : State) : Prop where
  entries : s.session.origins.length ≤ Config.maxOrigins
  distinct : (s.session.origins.map Origin.addr).Nodup
  timer : s.session.leaseTimer.isSome ↔ s.session.holder.isSome
  present : ∀ h, s.session.holder = some h → h ∈ s.session.origins.map Origin.addr
  cached : ∀ (e : Origin) (l : List Word), e ∈ s.session.origins → e.cached = some l →
    3 ≤ l.length ∧ kindOf l = some .response

/-- READING only while some origin holds the lease (R116). -/
abbrev State.ReadingInv (s : State) : Prop :=
  s.session.holder = none → ∀ (g : Fin 64) (x : Segment), s.ring.segs[g] = some x → x.state ≠ .reading

/-- Every loaded profile: 1 to 16 distinct slots, decimation 1 to 256, at least one post row, pre × decimation at most 1024,
and with pre above 0 every slot in the history set (R77, R79). -/
abbrev State.ProfileInv (s : State) : Prop :=
  ∀ (i : Fin 8) (p : Profile), s.profiles[i] = some p →
    1 ≤ p.slots.length ∧ p.slots.length ≤ 16 ∧ p.slots.Nodup ∧ 1 ≤ p.decimation ∧ p.decimation ≤ 256 ∧ 1 ≤ p.post ∧
      p.post ≤ 65535 ∧ p.pre * p.decimation ≤ 1024 ∧ (0 < p.pre → ∀ x ∈ p.slots, x ∈ s.receiver.historySet)

/-- A watch is FIRED exactly when an ACTIVE context refers to it, and no two contexts refer to one watch (R37). -/
structure State.ReferenceInv (s : State) : Prop where
  fired : ∀ (i : Fin 32) (w : Watch), s.watches[i] = some w →
    (w.state = .fired ↔ ∃ (k : Fin 4) (c : Context), s.contexts[k] = some c ∧ c.watchRef = some i)
  loaded : ∀ (k : Fin 4) (c : Context) (i : Fin 32), s.contexts[k] = some c → c.watchRef = some i →
    (s.watches[i]).isSome
  apart : ∀ (k l : Fin 4) (c d : Context) (i : Fin 32), s.contexts[k] = some c → s.contexts[l] = some d →
    c.watchRef = some i → d.watchRef = some i → k = l

/-- A watch in ARMED, FIRED or HOLDOFF that names a profile finds it loaded (R80). -/
abbrev State.LoadedInv (s : State) : Prop :=
  ∀ (i : Fin 32) (w : Watch) (p : Fin 8), s.watches[i] = some w → w.contents.profile = some p → w.state.holds = true →
    (s.profiles[p]).isSome

/-- The ring: each ACTIVE context owns exactly one FILLING segment and no segment is owned by two (R108); the completed list
holds exactly the FULL and READING segments, each once (R107); segments outside the format stay FREE (R101). -/
structure State.RingInv (s : State) : Prop where
  count : 2 ≤ s.ring.segCount ∧ s.ring.segCount ≤ 64
  owned : ∀ (k : Fin 4) (c : Context), s.contexts[k] = some c →
    ∃ x, s.ring.segs[c.segment] = some x ∧ x.state = .filling k
  owner : ∀ (g : Fin 64) (x : Segment) (k : Fin 4), s.ring.segs[g] = some x → x.state = .filling k →
    ∃ c, s.contexts[k] = some c ∧ c.segment = g
  listed : ∀ g : Fin 64, g ∈ s.ring.completed ↔ ∃ x, s.ring.segs[g] = some x ∧ x.state.isFilling = false
  once : s.ring.completed.Nodup
  outside : ∀ g : Fin 64, s.ring.segCount ≤ g.val → s.ring.segs[g] = none

/-- The format keeps its ranges and fits in memory (R101, R102). -/
structure State.FormatInv (s : State) : Prop where
  count : 2 ≤ s.ring.segCount ∧ s.ring.segCount ≤ 64
  size : 64 ≤ s.ring.segSize ∧ s.ring.segSize ≤ 131072
  fits : s.ring.segCount * s.ring.segSize ≤ Config.memoryWords
  cursor : s.ring.cursor < s.ring.segCount

/-- Every parameter is within its range (R178). -/
abbrev State.ParamInv (s : State) : Prop :=
  ∀ x : Param, x.range.1 ≤ s.params.get x ∧ s.params.get x ≤ x.range.2

/-- The fill of a segment is 12 to S, equals the words used of the context that fills it, and bounds the high-water
(R104, R105, R106). -/
structure State.FillInv (s : State) : Prop where
  fill : ∀ (g : Fin 64) (x : Segment), s.ring.segs[g] = some x →
    Config.headerWords ≤ x.fill ∧ x.fill ≤ s.ring.segSize ∧ x.highWater ≤ x.fill
  used : ∀ (k : Fin 4) (c : Context) (x : Segment), s.contexts[k] = some c → s.ring.segs[c.segment] = some x →
    x.fill = c.used

end Sys2Proof.Machine
end

