-- ==== Sys2Proof/WellFormed.lean ====
section
/-! DEFINITION. Well-formed commands: the operands spell what the row of spec/opcode_table.json describes. The meanings do
not rely on it: a frame command whose frame is of another kind has the effect that the manual gives that frame (log 7). -/

namespace Sys2Proof

open Machine (wordOf kindOf frameValid withCrc requestWords sweepWords plainWords srcOf)

/-- A REQUEST frame of 8 to 264 words whose source is not 63 (R2, R12). -/
def Request.wellFormed (r : Request) : Bool :=
  r.src != broadcast && decide (5 ≤ r.body.length) && decide (r.body.length ≤ 261)

/-- Word 0 of a request's body. -/
def Request.word0 (r : Request) : Word := r.body.getD 0 0

/-- A frame of header, second header word and padding, 3 to 264 words with its CRC (R2). -/
def plainOk (padding : List Word) : Bool := decide (padding.length ≤ 261)

/-- The words of a frame that FORWARD_FRAME may forward: any valid frame, since in HUNT and at an unaddressed node every
kind is forwarded (R11). -/
def forwardOk (words : List Word) : Bool := frameValid (withCrc words)

/-- The words of a frame that CONSUME_OWN_FRAME may consume: a valid RESPONSE or NOTICE, or a REQUEST with source 63. -/
def consumeOk (words : List Word) : Bool :=
  frameValid (withCrc words) &&
    (match kindOf words with
      | some .response | some .notice => true
      | some .request => srcOf words == broadcast
      | some .idle | some .sweep | some .event | some .reset | some .brk | none => false)

/-- The command's operands spell its row. -/
def Instr.wellFormed : Instr → Bool
  | .powerOnResetRelease _ _ => true
  | .resetnFall _ => true
  | .sendBreak => true
  | .startDelimiter _ => true
  | .lossOfSignal => true
  | .silenceTimerExpiry => true
  | .damagedFrame words => !frameValid words
  | .forwardFrame words => forwardOk words
  | .consumeOwnFrame words => consumeOk words
  | .sweepArrival _ _ _ countWord slots =>
    decide (1 ≤ slots.length) && decide (slots.length ≤ 256) && countWord.toNat % 512 == slots.length
  | .idleOffer _ _ padding => decide (13 ≤ padding.length) && plainOk padding
  | .resendTimerRunOut _ => true
  | .eventArrival _ _ padding => plainOk padding
  | .eventExpiry place => decide (place < Config.maxPending)
  | .tinLevelChange _ _ => true
  | .candidateTimerRunOut _ => true
  | .pulseTimerRunOut _ => true
  | .leaseExpiry => true
  | .loopReset h _ padding => h.src == 0 && plainOk padding
  | .unknownRequest r code => r.wellFormed && (code == 0 || decide (32 < code.toNat))
  | .status r => r.wellFormed
  | .getParam r => r.wellFormed
  | .setParam r => r.wellFormed
  | .readCounters r => r.wellFormed && r.word0.toNat % 256 == 0
  | .readCountersClear r => r.wellFormed && r.word0.toNat % 256 == 1
  | .clearTables r => r.wellFormed && r.word0.getLsbD 0
  | .clearCaptures r => r.wellFormed && r.word0.getLsbD 1
  | .clearNotices r => r.wellFormed && r.word0.getLsbD 2
  | .setHistory r => r.wellFormed
  | .loadWatch r => r.wellFormed
  | .clearWatch r => r.wellFormed
  | .getWatch r => r.wellFormed
  | .arm r => r.wellFormed
  | .disarm r => r.wellFormed
  | .armGroup r => r.wellFormed
  | .disarmGroup r => r.wellFormed
  | .force r => r.wellFormed
  | .loadProfile r => r.wellFormed
  | .clearProfile r => r.wellFormed
  | .getProfile r => r.wellFormed
  | .abortCapture r => r.wellFormed
  | .getContexts r => r.wellFormed
  | .formatRing r => r.wellFormed && !(r.body.getD 3 0).getLsbD 0
  | .formatRingForce r => r.wellFormed && (r.body.getD 3 0).getLsbD 0
  | .readSegment r => r.wellFormed
  | .releaseSegment r => r.wellFormed
  | .segmentInfo r => r.wellFormed
  | .scan r => r.wellFormed
  | .ackNotices r => r.wellFormed
  | .setEventEntry r => r.wellFormed
  | .getEventEntry r => r.wellFormed
  | .setTime r => r.wellFormed
  | .claim r => r.wellFormed
  | .renew r => r.wellFormed
  | .yield r => r.wellFormed
  | .takeover r => r.wellFormed

end Sys2Proof
end

