-- ==== Sys2Proof/Certificates/Slice0/Obligations.lean ====
section
/-! DEFINITION. The statements for the provers. Most statements of a command say what `exec` answers in full, as an equation of
states: the right side names every field that changes, so it is the command's frame too. -/

open Sys2Proof Sys2Proof.Machine

/-! ### The machine -/

/-- The model's choice (DESIGN CHOICE, log 22; log 1): the commands wait in one queue, put there from outside, and their order
in it is the order in which they take effect. A step takes the command at the front of the queue and runs it on the state with
the rest of the queue. -/
def Obligations.StepTakesFront : Prop :=
  ∀ (s : State) (c : Instr) (rest : List Instr), s.pending = c :: rest → step s = exec c { s with pending := rest }

/-- DESIGN CHOICE (log 4): a step on an empty queue is the time of 100 ns. The time base counts, modulo 2^48; every running
timer has one tick less left, but for its last tick, which its run-out takes (log 5): the silence timer, the resend timers,
the delay timers, the candidate and pulse timers, the lease timer. Nothing else changes. While RESETn is low nothing changes
at all. -/
def Obligations.IdleStepIsATick : Prop :=
  ∀ s : State, s.pending = [] →
    let less (n : Nat) : Nat := if n ≤ 1 then n else n - 1
    let fall (t : Timer) : Timer := match t with | none => none | some n => some (less n)
    (s.resetLow = true → step s = .next s) ∧
    (s.resetLow = false → step s = .next
      { s with
        port := { s.port with silence := fall s.port.silence }
        notices := { s.notices with queue := s.notices.queue.map fun n =>
          { n with sent := n.sent.map fun x => { x with timer := fall x.timer } } }
        events := { s.events with
          waiting := s.events.waiting.map fun w => { w with ticks := less w.ticks }
          timeBase := s.events.timeBase + 1 }
        lines :=
          { tin0 := { s.lines.tin0 with timer := fall s.lines.tin0.timer }
            tin1 := { s.lines.tin1 with timer := fall s.lines.tin1.timer }
            tout0 := fall s.lines.tout0
            tout1 := fall s.lines.tout1 }
        session := { s.session with leaseTimer := fall s.session.leaseTimer } })

/-! ### Requests of the watch table -/

/-- LOAD WATCH with readable contents of an EMPTY or IDLE entry: IDLE with those contents and a fresh runtime; any other entry
is refused with STATE and unchanged; contents that fail a check are RANGE and change nothing (R36, R40, R41; the failing field
is a free value, log 10). CLEAR WATCH: EMPTY unless FIRED, which is refused with BUSY; an index above 31 is refused with RANGE
(R42). The words of bodies are the model's reading (DEDUCED, log 12 to 14). -/
def Obligations.WatchesLoadAndClear : Prop :=
  (∀ (s : State) (r : Request) (i : Fin 32) (c : Contents), s.permits r .loadWatch → readLoadWatch r.body = .ok (i, c) →
     ((s.watches[i] = none ∨ ∃ w, s.watches[i] = some w ∧ w.state = .idle) →
       exec (.loadWatch r) s = .next (s.controlled
         { s with watches := setAt s.watches i (some
           { state := .idle, contents := c,
             runtime := { run := 0, latch := .unknown, previous := none, lastFire := none, firesLeft := c.budget,
                          holdoffLeft := 0, refusals := 0 } }) }
         r .loadWatch (.ok [BitVec.ofNat 16 i.val, 1]))) ∧
     (∀ w, s.watches[i] = some w → w.state ≠ .idle →
       exec (.loadWatch r) s = .next (s.controlled s r .loadWatch (.other .state [BitVec.ofNat 16 (watchCode (some w))])))) ∧
  (∀ (s : State) (r : Request) (n : Nat), s.permits r .loadWatch → readLoadWatch r.body = .error n →
     exec (.loadWatch r) s = .next (s.controlled s r .loadWatch (.other .range [Config.failingField 7 n]))) ∧
  (∀ (s : State) (r : Request), s.permits r .clearWatch →
     (31 < r.number 0 → exec (.clearWatch r) s = .next (s.controlled s r .clearWatch (.other .range []))) ∧
     ∀ i : Fin 32, r.number 0 = i.val →
       ((∀ w, s.watches[i] = some w → w.state ≠ .fired) →
         exec (.clearWatch r) s =
           .next (s.controlled { s with watches := setAt s.watches i none } r .clearWatch (.ok [0]))) ∧
       (∀ w, s.watches[i] = some w → w.state = .fired →
         exec (.clearWatch r) s = .next (s.controlled s r .clearWatch (.other .busy [3]))))

/-- GET WATCH changes nothing. An index above 31 gives RANGE, an EMPTY watch EMPTY. A loaded one gives index, state, contents,
the runtime of R36, the lowest context that refers to it while it is FIRED (absent otherwise), and the flag ORPHAN-FREE (R43).
The words of bodies are the model's reading (DEDUCED, log 12 to 14); an absent mark mask is a free value, log 11; that an
EMPTY watch's response carries no flag is the model's choice (DESIGN CHOICE, log 24). -/
def Obligations.GetWatchReports : Prop :=
  (∀ (s : State) (r : Request), s.admits r .getWatch → 31 < r.number 0 →
    exec (.getWatch r) s = .next (s.observed s r .getWatch (.other .range []))) ∧
  ∀ (s : State) (r : Request) (i : Fin 32), s.admits r .getWatch → r.number 0 = i.val →
    (s.watches[i] = none → exec (.getWatch r) s = .next (s.observed s r .getWatch (.other .empty [0]))) ∧
    (∀ (w : Watch) (x : Word) (b : Bool), s.watches[i] = some w →
      ((w.state ≠ .fired ∧ x = 0xFFFF) ∨
        (w.state = .fired ∧ ∃ (k : Fin 4) (c : Context), s.contexts[k] = some c ∧ c.watchRef = some i ∧
          (∀ l : Fin 4, l < k → ∀ d, s.contexts[l] = some d → d.watchRef ≠ some i) ∧ x = BitVec.ofNat 16 k.val)) →
      (b = true ↔ ∀ (k : Fin 4) (c : Context), s.contexts[k] = some c → c.openingWatch = i → c.watchRef = some i) →
      exec (.getWatch r) s = .next (s.observed s r .getWatch
        (.ok ([BitVec.ofNat 16 i.val, BitVec.ofNat 16 (watchCode (some w))] ++ w.contents.items ++
          [BitVec.ofNat 16 w.runtime.run, match w.runtime.latch with | .unknown => 0 | .low => 1 | .high => 2,
            match w.runtime.previous with | none => 0x8000 | some v => v] ++
          (match w.runtime.lastFire with | none => [0, 0] | some f => [1, f]) ++
          [match w.runtime.firesLeft with | none => 0xFFFF | some n => BitVec.ofNat 16 n,
            1, BitVec.ofNat 16 w.runtime.holdoffLeft, 1, BitVec.ofNat 16 w.runtime.refusals] ++
          [x] ++ [if b then 1 else 0]))))

/-- ARM, every case: RANGE, EMPTY, STATE, OK unchanged, CONFLICT naming the profile, and ARMED with a fresh runtime (R44,
R36). The words of bodies are the model's reading (DEDUCED, log 12 to 14). -/
def Obligations.ArmByState : Prop :=
  ∀ (s : State) (r : Request), s.permits r .arm →
    (31 < r.number 0 → exec (.arm r) s = .next (s.controlled s r .arm (.other .range []))) ∧
    ∀ i : Fin 32, r.number 0 = i.val →
      (s.watches[i] = none → exec (.arm r) s = .next (s.controlled s r .arm (.other .empty [0]))) ∧
      ∀ w, s.watches[i] = some w →
        (w.state = .fired → exec (.arm r) s = .next (s.controlled s r .arm (.other .state [3]))) ∧
        (w.state = .holdoff → exec (.arm r) s = .next (s.controlled s r .arm (.other .state [4]))) ∧
        (w.state = .armed → exec (.arm r) s = .next (s.controlled s r .arm (.ok [2]))) ∧
        ((w.state = .idle ∨ w.state = .spent) →
          (∀ p, w.contents.profile = some p → s.profiles[p] = none →
            exec (.arm r) s = .next (s.controlled s r .arm
              (.other .conflict [BitVec.ofNat 16 p.val, BitVec.ofNat 16 (watchCode (some w))]))) ∧
          ((∀ p, w.contents.profile = some p → (s.profiles[p]).isSome = true) →
            exec (.arm r) s = .next (s.controlled
              { s with watches := setAt s.watches i (some
                { state := .armed, contents := w.contents,
                  runtime := { run := 0, latch := .unknown, previous := none, lastFire := none,
                               firesLeft := w.contents.budget, holdoffLeft := 0, refusals := 0 } }) }
              r .arm (.ok [2]))))

/-- DISARM, every case: RANGE, EMPTY, OK unchanged for IDLE, IDLE with holdoff remaining 0, and for a FIRED watch the context
that refers to it orphaned (R45, R46). The words of bodies are the model's reading (DEDUCED, log 12 to 14). -/
def Obligations.DisarmByState : Prop :=
  ∀ (s : State) (r : Request), s.permits r .disarm →
    (31 < r.number 0 → exec (.disarm r) s = .next (s.controlled s r .disarm (.other .range []))) ∧
    ∀ i : Fin 32, r.number 0 = i.val →
      (s.watches[i] = none → exec (.disarm r) s = .next (s.controlled s r .disarm (.other .empty [0]))) ∧
      ∀ w, s.watches[i] = some w →
        (w.state = .idle → exec (.disarm r) s = .next (s.controlled s r .disarm (.ok [1]))) ∧
        ((w.state = .armed ∨ w.state = .holdoff ∨ w.state = .spent) →
          exec (.disarm r) s = .next (s.controlled
            { s with watches := setAt s.watches i (some
                { w with state := .idle, runtime := { w.runtime with holdoffLeft := 0 } }) }
            r .disarm (.ok [1]))) ∧
        (w.state = .fired →
          exec (.disarm r) s = .next (s.controlled
            { s with
              watches := setAt s.watches i (some
                { w with state := .idle, runtime := { w.runtime with holdoffLeft := 0 } })
              contexts := mapTable (fun _ o => o.map fun c =>
                { c with watchRef := if c.watchRef = some i then none else c.watchRef }) s.contexts }
            r .disarm (.ok [1])))

/-- ARM GROUP: each watch of a named group that is IDLE or SPENT and whose action profile, if any, is loaded becomes ARMED
with a fresh runtime. DISARM GROUP: each watch of a named group that is neither EMPTY nor IDLE becomes IDLE with holdoff
remaining 0, and the contexts that refer to a FIRED one among them are orphaned. Every other watch is as it was; the response
counts and names those changed (R47, R48). The words of bodies are the model's reading (DEDUCED, log 12 to 14). -/
def Obligations.GroupWalks : Prop :=
  (∀ (s : State) (r : Request) (changes : Fin 32 → Bool), s.permits r .armGroup →
     (∀ i : Fin 32, changes i = true ↔ ∃ w, s.watches[i] = some w ∧ (r.number 0).testBit w.contents.group.val = true ∧
       (w.state = .idle ∨ w.state = .spent) ∧ ∀ p, w.contents.profile = some p → (s.profiles[p]).isSome = true) →
     exec (.armGroup r) s = .next (s.controlled
       { s with watches := mapTable (fun i o => if changes i then o.map Watch.armedFresh else o) s.watches }
       r .armGroup
       (.ok ([BitVec.ofNat 16 ((List.finRange 32).filter changes).length] ++
         itemWatchSet ((List.finRange 32).filter changes))))) ∧
  (∀ (s : State) (r : Request) (changes : Fin 32 → Bool), s.permits r .disarmGroup →
     (∀ i : Fin 32, changes i = true ↔ ∃ w, s.watches[i] = some w ∧ (r.number 0).testBit w.contents.group.val = true ∧
       w.state ≠ .idle) →
     exec (.disarmGroup r) s = .next (s.controlled
       { s with
         watches := mapTable (fun i o => if changes i then o.map Watch.disarmed else o) s.watches
         contexts := mapTable (fun _ o => o.map fun c =>
           { c with watchRef := c.watchRef.filter fun i => !(changes i && isFired s.watches[i]) }) s.contexts }
       r .disarmGroup
       (.ok ([BitVec.ofNat 16 ((List.finRange 32).filter changes).length] ++
         itemWatchSet ((List.finRange 32).filter changes)))))

/-- FORCE of an ARMED watch without an action profile: the fire takes place, with its mark, its pulse, its notice and its end
step (R69, R71, R73). With a profile, an IDLE context and no segment to be had, the fire takes place and its capture is lost
(R70, R85, R110). FORCE with an index above 31 is RANGE, of a watch that is not ARMED is refused with STATE, and an ARMED
watch that wants a context while all four are ACTIVE is refused as a fire: FIRES_REFUSED and the refusal count are up, the run
count is 0, WATCH_REFUSED is posted (R68, R73). Nothing else changes. The words of bodies are the model's reading (DEDUCED,
log 12 to 14), the codes of the outcome its choice (DESIGN CHOICE, log 27). -/
def Obligations.ForceFiresOrRefuses : Prop :=
  (∀ (s : State) (r : Request) (i : Fin 32) (w : Watch), s.permits r .force → r.number 0 = i.val →
     s.watches[i] = some w → w.state = .armed → w.contents.profile = none →
     exec (.force r) s = .next (s.controlled
       (let fired := { w with runtime := { w.runtime with
           lastFire := s.receiver.expected, firesLeft := w.runtime.firesLeft.map (· - 1) } }
        let t := { s with
           counters := setAt s.counters Counter.fires.index (satAdd (s.counter .fires) 1)
           watches := setAt s.watches i (some fired.endStep)
           port := { s.port with markWord := s.port.markWord ||| askedMark w.contents.markCode }
           lines := { s.lines with
             tout0 := startPulse w.contents.pulse.l0 s.lines.tout0, tout1 := startPulse w.contents.pulse.l1 s.lines.tout1 } }
        if w.contents.notify then t.post .watchFired i.val .watch else t)
       r .force
       (.ok [BitVec.ofNat 16 i.val, 0, 0xFFFF, 0,
         BitVec.ofNat 16 (watchCode (some ({ w with runtime := { w.runtime with
           lastFire := s.receiver.expected, firesLeft := w.runtime.firesLeft.map (· - 1) } }).endStep))]))) ∧
  (∀ (s : State) (r : Request), s.permits r .force → 31 < r.number 0 →
     exec (.force r) s = .next (s.controlled s r .force (.other .range []))) ∧
  (∀ (s : State) (r : Request) (i : Fin 32) (w : Watch) (p : Fin 8) (prof : Profile) (k : Fin 4), s.permits r .force →
     r.number 0 = i.val → s.watches[i] = some w → w.state = .armed → w.contents.notify = false →
     w.contents.profile = some p → s.profiles[p] = some prof → s.contexts[k] = none → s.ring.segCount ≤ 64 →
     (∀ g : Fin 64, g.val < s.ring.segCount → (s.ring.segs[g]).isSome = true) →
     (prof.policy = .refuse ∨ ∀ g ∈ s.ring.completed, ∀ x, s.ring.segs[g] = some x → x.state ≠ .full) →
     let fired : Watch := { w with runtime := { w.runtime with
       lastFire := s.receiver.expected, firesLeft := w.runtime.firesLeft.map (· - 1) } }
     let t : State := { s with
       counters := setAt (setAt s.counters Counter.fires.index (satAdd (s.counter .fires) 1)) Counter.capturesLost.index
         (satAdd (s.counter .capturesLost) 1)
       port := { s.port with markWord := s.port.markWord ||| askedMark w.contents.markCode }
       lines := { s.lines with
         tout0 := startPulse w.contents.pulse.l0 s.lines.tout0, tout1 := startPulse w.contents.pulse.l1 s.lines.tout1 } }
     exec (.force r) s = .next (s.controlled
       { t.post .captureLost i.val .watch with watches := setAt s.watches i (some fired.endStep) }
       r .force (.ok [BitVec.ofNat 16 i.val, 0, 0xFFFF, 1, BitVec.ofNat 16 (watchCode (some fired.endStep))]))) ∧
  (∀ (s : State) (r : Request) (i : Fin 32), s.permits r .force → r.number 0 = i.val →
     ((∀ w, s.watches[i] = some w → w.state ≠ .armed) →
       exec (.force r) s = .next (s.controlled s r .force
         (.other .state [BitVec.ofNat 16 (watchCode s.watches[i])]))) ∧
     (∀ (w : Watch) (p : Fin 8), s.watches[i] = some w → w.state = .armed → w.contents.profile = some p →
       (∀ k : Fin 4, (s.contexts[k]).isSome = true) →
       exec (.force r) s = .next (s.controlled
         ({ s with
           counters := setAt s.counters Counter.firesRefused.index (satAdd (s.counter .firesRefused) 1)
           watches := setAt s.watches i (some { w with runtime := { w.runtime with
             refusals := min (w.runtime.refusals + 1) 65535, run := 0 } }) }.post .watchRefused i.val .watch)
         r .force (.ok [BitVec.ofNat 16 i.val, 1, 0xFFFF, 0, 2]))))

/-! ### Requests of the history store and the capture engine -/

/-- SET HISTORY with a list of at most 32 distinct slots: where no loaded profile with pre rows lacks a slot of it, it becomes
the history set and the history is empty; otherwise CONFLICT names the lowest such profile and the first slot it lacks, and
nothing changes. A count above 32 or a slot that appears twice is RANGE (R30). The words of bodies are the model's reading
(DEDUCED, log 12 to 14). -/
def Obligations.SetHistoryReplaces : Prop :=
  (∀ (s : State) (r : Request), s.permits r .setHistory →
    (32 < r.number 0 ∨ ∃ (l : List (BitVec 8)) (pad : List Word),
      r.body = BitVec.ofNat 16 l.length :: (packSlots l ++ pad) ∧ l.length ≤ 32 ∧ ¬l.Nodup) →
    exec (.setHistory r) s = .next (s.controlled s r .setHistory
      (.other .range (BitVec.ofNat 16 s.receiver.historySet.length :: packSlots s.receiver.historySet)))) ∧
  ∀ (s : State) (r : Request) (l : List (BitVec 8)) (pad : List Word), s.permits r .setHistory →
    r.body = BitVec.ofNat 16 l.length :: (packSlots l ++ pad) → l.length ≤ 32 → l.Nodup →
    ((∀ (i : Fin 8) (p : Profile), s.profiles[i] = some p → 0 < p.pre → ∀ x ∈ p.slots, x ∈ l) →
      exec (.setHistory r) s = .next (s.controlled
        { s with receiver := { s.receiver with historySet := l, history := [] } } r .setHistory
        (.ok ([BitVec.ofNat 16 l.length] ++ packSlots l ++ [0])))) ∧
    (∀ (i : Fin 8) (p : Profile) (before after : List (BitVec 8)) (x : BitVec 8), s.profiles[i] = some p → 0 < p.pre →
      p.slots = before ++ x :: after → (∀ y ∈ before, y ∈ l) → x ∉ l →
      (∀ (j : Fin 8) (q : Profile), j < i → s.profiles[j] = some q → 0 < q.pre → ∀ y ∈ q.slots, y ∈ l) →
      exec (.setHistory r) s = .next (s.controlled s r .setHistory
        (.other .conflict ([BitVec.ofNat 16 i.val, BitVec.ofNat 16 x.toNat, BitVec.ofNat 16 s.receiver.historySet.length] ++
          packSlots s.receiver.historySet))))

/-- LOAD PROFILE with readable fields: where pre is 0 or every slot is in the history set the entry is replaced whole;
otherwise CONFLICT names the first slot that is not; fields that fail a check are RANGE and change nothing (R78, R79; the
failing field is a free value, log 10). CLEAR PROFILE: RANGE above 7, EMPTY for an empty profile, CONFLICT naming the lowest
ARMED, FIRED or HOLDOFF watch that names the profile with its state, and otherwise the profile becomes empty (R80). The words
of bodies are the model's reading (DEDUCED, log 12 to 14). -/
def Obligations.ProfilesLoadAndClear : Prop :=
  (∀ (s : State) (r : Request) (i : Fin 8) (p : Profile), s.permits r .loadProfile → readLoadProfile r.body = .ok (i, p) →
     ((p.pre = 0 ∨ ∀ x ∈ p.slots, x ∈ s.receiver.historySet) →
       exec (.loadProfile r) s = .next (s.controlled { s with profiles := setAt s.profiles i (some p) } r .loadProfile
         (.ok [BitVec.ofNat 16 i.val]))) ∧
     (∀ (before after : List (BitVec 8)) (x : BitVec 8), 0 < p.pre → p.slots = before ++ x :: after →
       (∀ y ∈ before, y ∈ s.receiver.historySet) → x ∉ s.receiver.historySet →
       exec (.loadProfile r) s = .next (s.controlled s r .loadProfile (.other .conflict [BitVec.ofNat 16 x.toNat])))) ∧
  (∀ (s : State) (r : Request) (n : Nat), s.permits r .loadProfile → readLoadProfile r.body = .error n →
     exec (.loadProfile r) s = .next (s.controlled s r .loadProfile (.other .range [Config.failingField 15 n]))) ∧
  (∀ (s : State) (r : Request), s.permits r .clearProfile →
     (7 < r.number 0 → exec (.clearProfile r) s = .next (s.controlled s r .clearProfile (.other .range []))) ∧
     ∀ i : Fin 8, r.number 0 = i.val →
       (s.profiles[i] = none → exec (.clearProfile r) s = .next (s.controlled s r .clearProfile (.other .empty []))) ∧
       (∀ p, s.profiles[i] = some p →
         ((∀ (k : Fin 32) (w : Watch), s.watches[k] = some w → w.contents.profile = some i →
             w.state = .idle ∨ w.state = .spent) →
           exec (.clearProfile r) s = .next (s.controlled { s with profiles := setAt s.profiles i none } r .clearProfile
             (.ok []))) ∧
         (∀ (k : Fin 32) (w : Watch), s.watches[k] = some w → w.contents.profile = some i → w.state.holds = true →
           (∀ (j : Fin 32) (v : Watch), j < k → s.watches[j] = some v → v.contents.profile = some i → v.state.holds = false) →
           exec (.clearProfile r) s = .next (s.controlled s r .clearProfile
             (.other .conflict [BitVec.ofNat 16 k.val, BitVec.ofNat 16 (watchCode (some w))])))))

/-- GET PROFILE: RANGE above 7, EMPTY for an empty profile, else its index, its fields, its row size, and the counts of
watches that name it and of contexts whose snapshot came from it (R81). GET CONTEXTS: the four contexts, an IDLE one by its
state only and an ACTIVE one with its sixteen other items, and the capture sequence counter (R99). Neither changes anything.
The words of bodies are the model's reading (DEDUCED, log 12 to 14). -/
def Obligations.GetProfileAndContextsReport : Prop :=
  (∀ (s : State) (r : Request), s.admits r .getProfile →
     (7 < r.number 0 → exec (.getProfile r) s = .next (s.observed s r .getProfile (.other .range []))) ∧
     ∀ i : Fin 8, r.number 0 = i.val →
       (s.profiles[i] = none → exec (.getProfile r) s = .next (s.observed s r .getProfile (.other .empty []))) ∧
       (∀ p, s.profiles[i] = some p → exec (.getProfile r) s = .next (s.observed s r .getProfile
         (.ok ([BitVec.ofNat 16 i.val] ++ p.items ++ [BitVec.ofNat 16 ((p.slots.length + 1) / 2),
           BitVec.ofNat 16 ((List.finRange 32).countP fun k => (s.watches[k]).any fun w => w.contents.profile == some i),
           BitVec.ofNat 16 ((List.finRange 4).countP fun k => (s.contexts[k]).any fun c => c.profileIndex == i)]))))) ∧
  (∀ (s : State) (r : Request), s.admits r .getContexts →
     let small (n : Nat) : Word := BitVec.ofNat 16 n
     let sweep (o : Option Sweep) : List Word := match o with | none => [0, 0] | some n => [1, n]
     let shown (o : Option Context) : List Word :=
       match o with
       | none => [0]
       | some c =>
         [1, match c.watchRef with | none => 0xFFFF | some i => small i.val, small c.openingWatch.val,
           small c.profileIndex.val, small c.snapshot.slots.length, small c.snapshot.decimation, small c.segment.val] ++
         item32 c.sequence ++ sweep c.trigger ++ [small c.pre, 1, small c.post] ++ itemNat32 c.gap ++
         itemNat32 (c.pre + c.post) ++ [1, small (c.snapshot.post - c.post)] ++ sweep c.nextDue ++ itemNat32 c.used
     exec (.getContexts r) s = .next (s.observed s r .getContexts
       (.ok (shown s.contexts[0] ++ shown s.contexts[1] ++ shown s.contexts[2] ++ shown s.contexts[3] ++
         item32 s.captureSeq))))

/-- ABORT CAPTURE: RANGE above 3, STATE for an IDLE context, and for an ACTIVE one the end of its capture with reason ABORTED,
reported with what stood at the end (R94). The end of a capture with a record: the end reason is written into header word 0,
the segment becomes FULL with that reason and fill and joins the tail of the completed list, CAPTURES_DONE is up, CAPTURE_DONE
is posted where the snapshot asks for it and the reason is not RESET, the context becomes IDLE, and the watch it refers to
takes its end step (R75, R93, R96, R107). The words of bodies are the model's reading (DEDUCED, log 12 to 14). -/
def Obligations.CapturesEnd : Prop :=
  (∀ (s : State) (r : Request), s.permits r .abortCapture →
     (3 < r.number 0 → exec (.abortCapture r) s = .next (s.controlled s r .abortCapture (.other .range []))) ∧
     ∀ k : Fin 4, r.number 0 = k.val →
       (s.contexts[k] = none → exec (.abortCapture r) s = .next (s.controlled s r .abortCapture (.other .state [0]))) ∧
       (∀ c, s.contexts[k] = some c →
         exec (.abortCapture r) s = .next (s.controlled (s.endCapture k .aborted) r .abortCapture
           (.ok ([BitVec.ofNat 16 k.val, BitVec.ofNat 16 c.segment.val] ++ item32 c.sequence ++
             itemSmallOpt (c.watchRef.map Fin.val) ++ [BitVec.ofNat 16 c.pre, 1, BitVec.ofNat 16 c.post] ++
             itemNat32 c.gap ++ itemNat32 c.used))))) ∧
  (∀ (s : State) (k : Fin 4) (c : Context) (reason : EndReason), s.contexts[k] = some c →
     let ended : State := { s with
       ring := { s.ring with
         mem := Memory.write s.ring.mem (c.segment.val * s.ring.segSize)
           (0x7A3C#16 ++ BitVec.ofNat 8 c.openingWatch.val ++ BitVec.ofNat 4 c.profileIndex.val ++ reason.code)
         segs := setAt s.ring.segs c.segment ((s.ring.segs[c.segment]).map fun x =>
           { x with state := .full, endReason := reason, fill := c.used })
         completed := s.ring.completed ++ [c.segment] }
       counters := setAt s.counters Counter.capturesDone.index (satAdd (s.counter .capturesDone) 1) }
     let told : State :=
       if c.snapshot.notify = true ∧ reason ≠ .reset then ended.post .captureDone c.segment.val .segment else ended
     s.endCapture k reason =
       { told with
         contexts := setAt s.contexts k none
         watches := match c.watchRef with
           | none => s.watches
           | some i => setAt s.watches i ((s.watches[i]).map Watch.endStep) })

/-! ### The loop port -/

/-- RESETn rises: the straps given are latched, every block takes its power-on value, the notice queue holds one RESTART
entry, the copy stops, and a frame being copied is cut short (R9, R33, R120, R137, R154, R173, R178). The detectors look at
the levels the pins hold; script, draws and the queue of commands are the model's own and stay (log 2, log 6). The record of
the output is the model's (log 9). -/
def Obligations.ReleaseTakesPowerOnValues : Prop :=
  ∀ (s : State) (straps : Addr) (copied : List Word), ∃ t, exec (.powerOnResetRelease straps copied) s = .next t ∧
    t.resetLow = false ∧ t.strap = straps ∧
    t.port = { link := .down, validCount := 0, damagedCount := 0, silence := none, markWord := 0, downSeen := false,
               out := s.port.out ++ (if copied = [] then [] else [.cutShort copied]) ++ [.copyEnds] } ∧
    t.receiver = { expected := none, historySet := [], history := [] } ∧
    (∀ i : Fin 32, t.watches[i] = none) ∧ (∀ i : Fin 8, t.profiles[i] = none) ∧ (∀ k : Fin 4, t.contexts[k] = none) ∧
    t.captureSeq = 0 ∧ t.ring.segCount = 16 ∧ t.ring.segSize = 16384 ∧ (∀ g : Fin 64, t.ring.segs[g] = none) ∧
    t.ring.cursor = 0 ∧ t.ring.completed = [] ∧ t.ring.low = false ∧
    t.notices.queue = [{ kind := .restart, subject := 0, cls := .nothing, repeats := 1, sent := none }] ∧
    t.notices.nextNumber = 0 ∧ t.notices.overflow = false ∧
    (∀ k : Fin 16, t.events.table[k] =
      { enable := false, arm := 0, disarm := 0, zeroTime := false, pulse := { l0 := false, l1 := false } }) ∧
    t.events.waiting = [] ∧ t.events.timeBase = 0 ∧
    t.lines = { tin0 := { settled := .unsettled, level := s.lines.tin0.level, timer := some 2 },
                tin1 := { settled := .unsettled, level := s.lines.tin1.level, timer := some 2 }, tout0 := none, tout1 := none } ∧
    t.session = { origins := [], holder := none, leaseTimer := none } ∧
    t.params = { noticeSink := 0, noticeResend := 10, noticeLimit := 3, leaseTime := 500, eventDelay := 0, ringLow := 2,
                 takeoverOrigin := 0 } ∧
    (∀ n : Fin 12, t.counters[n] = 0) ∧ t.script = s.script ∧ t.draws = s.draws ∧ t.pending = s.pending

/-- RESETn falls: the output switches to the copy, a frame in transmission is cut short after the words that had left, frames
that had arrived and not begun to leave never do, and pulses end. While RESETn is low every frame passes as it came, a change
on a trigger input is the pin's level only, and no BREAK, delimiter, loss of signal, run-out, further fall or passing of time
has an effect (R9, R154). That the other state is held meanwhile is read from the manual (DEDUCED, log 20); the record of the
output is the model's (log 9), and a step on an empty queue is 100 ns (DESIGN CHOICE, log 4). -/
def Obligations.ResetnLowCopies : Prop :=
  ∀ s : State,
    (s.resetLow = false →
      let fallen (out : List OutItem) : State :=
        { s with resetLow := true, port := { s.port with out := out ++ [.copyStarts] },
                 lines := { s.lines with tout0 := none, tout1 := none } }
      (∀ x : Transmission, ∃ out, exec (.resetnFall x) s = .next (fallen out)) ∧
      ∀ (early : List OutItem) (late : List (List Word)),
        (s.port.out = early ++ late.map .frame →
          exec (.resetnFall { waiting := late.length, sent := none }) s = .next (fallen early)) ∧
        (∀ (ws : List Word) (k : Nat), s.port.out = early ++ .frame ws :: late.map .frame →
          exec (.resetnFall { waiting := late.length, sent := some k }) s = .next
            (fallen (early ++ [if k < ws.length then .cutShort (ws.take k) else .frame ws])))) ∧
    (s.resetLow = true →
      (∀ (c : Instr) (ws : List Word), frameOf c = some ws →
        exec c s = .next { s with port := { s.port with out := s.port.out ++ [.frame ws] } }) ∧
      (∀ high : Bool,
        exec (.tinLevelChange .l0 high) s =
          .next { s with lines := { s.lines with tin0 := { s.lines.tin0 with level := high } } } ∧
        exec (.tinLevelChange .l1 high) s =
          .next { s with lines := { s.lines with tin1 := { s.lines.tin1 with level := high } } }) ∧
      (∀ c ∈ [Instr.sendBreak, .startDelimiter true, .startDelimiter false, .lossOfSignal, .silenceTimerExpiry, .leaseExpiry,
          .candidateTimerRunOut .l0, .candidateTimerRunOut .l1, .pulseTimerRunOut .l0, .pulseTimerRunOut .l1],
        exec c s = .next s) ∧
      (∀ (number : BitVec 8) (place : Nat) (x : Transmission),
        exec (.resendTimerRunOut number) s = .next s ∧ exec (.eventExpiry place) s = .next s ∧
        exec (.resetnFall x) s = .next s) ∧
      (s.pending = [] → step s = .next s))

/-- DOWN: SEND_BREAK sends a BREAK frame of 8 words; a start delimiter with signal takes the link to HUNT with both counts 0
and the silence timer at 100 µs; one without signal, or loss of signal, changes nothing (R3). HUNT: loss of signal, or the
expiry of the silence timer, takes the link to DOWN (R5). One SEND_BREAK is one BREAK (DESIGN CHOICE, log 9); a run-out acts
whenever the timer runs (DESIGN CHOICE, log 5). -/
def Obligations.LinkStartsAndFails : Prop :=
  ∀ s : State, s.resetLow = false →
    (s.port.link = .down →
      exec .sendBreak s = .next { s with port := { s.port with
        out := s.port.out ++ [.frame (withCrc ([headerWord .brk 0 s.strap, 0] ++ List.replicate 5 0x8000))] } } ∧
      exec (.startDelimiter true) s = .next { s with port := { s.port with
        link := .hunt, validCount := 0, damagedCount := 0, silence := some 1000 } } ∧
      exec (.startDelimiter false) s = .next s ∧ exec .lossOfSignal s = .next s) ∧
    (s.port.link = .hunt →
      ∀ c ∈ [Instr.lossOfSignal, .silenceTimerExpiry], (c = .silenceTimerExpiry → s.port.silence.isSome = true) →
        exec c s = .next { s with
          port := { s.port with link := .down, validCount := 0, damagedCount := 0, silence := none, downSeen := true }
          counters := setAt s.counters Counter.linkDowns.index (satAdd (s.counter .linkDowns) 1) })

/-- UP to DOWN: LINK_DOWNS is up, the down-seen latch set, counts, timer and mark word cleared (R5, R8). At an addressed node
the expected number and the history are gone, every watch loses run count, latch, previous value and last fire sweep, and a
capture in flight ends with LINK, here at most one (R31, R74, R95). At an unaddressed node nothing else happens (R18). The
history set and all else stay. A run-out acts whenever the timer runs (DESIGN CHOICE, log 5). -/
def Obligations.DepartureBreaksSequence : Prop :=
  ∀ (s : State) (c : Instr), s.resetLow = false → s.port.link = .up →
    (c = .lossOfSignal ∨ (c = .silenceTimerExpiry ∧ s.port.silence.isSome = true)) →
    let down : State := { s with
      port := { s.port with
        link := .down, validCount := 0, damagedCount := 0, silence := none, downSeen := true, markWord := 0 }
      counters := setAt s.counters Counter.linkDowns.index (satAdd (s.counter .linkDowns) 1) }
    let broken : State := { down with
      receiver := { s.receiver with expected := none, history := [] }
      watches := mapTable (fun _ o => o.map fun w => { w with runtime := { w.runtime with
        run := 0, latch := .unknown, previous := none, lastFire := none } }) s.watches }
    (s.addressed = false → exec c s = .next down) ∧
    (s.addressed = true →
      ((∀ k : Fin 4, s.contexts[k] = none) → exec c s = .next broken) ∧
      (∀ (k : Fin 4) (x : Context), s.contexts[k] = some x → (∀ l : Fin 4, l ≠ k → s.contexts[l] = none) →
        exec c s = .next (broken.endCapture k .link)))

/-- A damaged frame in HUNT or UP: an IDLE with the damaged flag and the received length held within 3 to 264 leaves in its
place, DAMAGED_FRAMES and the damaged count are up, the valid count is 0, and no block is told (R4, R6). In UP the eighth in a
row takes the link to HUNT with the departure from UP (R4, R8), in which a capture in flight, here at most one, ends with LINK
(R95); at an unaddressed node no block is told of it (R18). -/
def Obligations.DamagedFrameReplaced : Prop :=
  ∀ (s : State) (ws : List Word), s.receives → frameValid ws = false →
    let idle := withCrc ([0, 0x8000] ++ List.replicate (max 3 (min ws.length 264) - 3) 0x8000)
    let counters := setAt s.counters Counter.damagedFrames.index (satAdd (s.counter .damagedFrames) 1)
    ((s.port.link = .hunt ∨ s.port.damagedCount < 7) →
      exec (.damagedFrame ws) s = .next
        { s with
          port := { s.port with
            out := s.port.out ++ [.frame idle], damagedCount := min (s.port.damagedCount + 1) 8, validCount := 0 }
          counters := counters }) ∧
    (s.port.link = .up → s.port.damagedCount = 7 →
      let hunt : State := { s with
        port := { s.port with
          out := s.port.out ++ [.frame idle], link := .hunt, damagedCount := 0, validCount := 0, markWord := 0 }
        counters := counters }
      let broken : State := { hunt with
        receiver := { s.receiver with expected := none, history := [] }
        watches := mapTable (fun _ o => o.map fun w => { w with runtime := { w.runtime with
          run := 0, latch := .unknown, previous := none, lastFire := none } }) s.watches }
      (s.addressed = false → exec (.damagedFrame ws) s = .next hunt) ∧
      (s.addressed = true →
        ((∀ k : Fin 4, s.contexts[k] = none) → exec (.damagedFrame ws) s = .next broken) ∧
        (∀ (k : Fin 4) (x : Context), s.contexts[k] = some x → (∀ l : Fin 4, l ≠ k → s.contexts[l] = none) →
          exec (.damagedFrame ws) s = .next (broken.endCapture k .link))))

/-- A valid frame is counted and leaves unchanged, with no other effect, when it arrives in HUNT (short of the fourth in a
row), at an unaddressed node in UP, or in UP as a frame of row 10 of R12 (R4, R11, R12). The fourth in a row in HUNT is
forwarded and takes the link to UP with both counts 0 and the latch cleared; a set latch posts a LINK notice at an addressed
node (R4, R7). -/
def Obligations.ValidFrameForwarded : Prop :=
  (∀ (s : State) (ws : List Word), s.resetLow = false → frameValid (withCrc ws) = true →
     ((s.port.link = .hunt → s.port.validCount < 3 → exec (.forwardFrame ws) s = .next (s.heard (withCrc ws))) ∧
      (s.port.link = .up → s.addressed = false → exec (.forwardFrame ws) s = .next (s.heard (withCrc ws))) ∧
      (s.port.link = .up → s.addressed = true →
        ((kindOf ws = some .request ∧ srcOf ws ≠ 63 ∧ destOf ws ≠ s.strap) ∨
         (kindOf ws = some .event ∧ destOf ws ≠ 63 ∧ destOf ws ≠ s.strap) ∨
         (kindOf ws = some .reset ∧ (srcOf ws ≠ 0 ∨ (destOf ws ≠ 63 ∧ destOf ws ≠ s.strap))) ∨
         ((kindOf ws = some .response ∨ kindOf ws = some .notice) ∧ srcOf ws ≠ s.strap) ∨
         (kindOf ws = some .idle ∧ ws.length + 1 < 16) ∨ kindOf ws = some .brk) →
        exec (.forwardFrame ws) s = .next (s.heard (withCrc ws))))) ∧
  (∀ (s : State) (ws : List Word), s.resetLow = false → s.port.link = .hunt → s.port.validCount = 3 →
     frameValid (withCrc ws) = true →
     let t := { s with port := { s.port with
       link := .up, validCount := 0, damagedCount := 0, silence := some 1000, downSeen := false,
       out := s.port.out ++ [.frame (withCrc ws)] } }
     ((s.port.downSeen = false ∨ s.addressed = false) → exec (.forwardFrame ws) s = .next t) ∧
     (s.port.downSeen = true → s.addressed = true → exec (.forwardFrame ws) s = .next (t.post .link 0 .nothing)))

/-- The node's own RESPONSE or NOTICE come round the loop, or a REQUEST with source 63, leaves as an IDLE of the same length
that is not damaged, and nothing else changes but the port's counts (R12, rows 2 and 8). -/
def Obligations.OwnFrameConsumed : Prop :=
  ∀ (s : State) (ws : List Word), s.hears → frameValid (withCrc ws) = true →
    (((kindOf ws = some .response ∨ kindOf ws = some .notice) ∧ srcOf ws = s.strap) ∨
      (kindOf ws = some .request ∧ srcOf ws = 63)) →
    exec (.consumeOwnFrame ws) s = .next (s.heard (withCrc ([0, 0] ++ List.replicate (ws.length - 2) 0x8000)))

/-! ### The sweep receiver and the evaluation of watches -/

/-- A SWEEP that starts a sequence or comes after `d` missing sweeps, 0 to 1023, while no capture is in flight and no ARMED
watch's condition is met by it: the pending mark word rides on it and is cleared; MISSED_SWEEPS is up by `d`; the history
takes `d` MISSING rows and the sweep's own, keeping the newest 1024; the next number is expected; ARMED watches take their
runtime of the evaluation, HOLDOFF watches count `d` + 1. All else is as it was (R13, R21, R23, R25, R28, R55, R72). -/
def Obligations.SweepWithoutFire : Prop :=
  ∀ (s : State) (h : Header) (n m c : Word) (slots : List Word) (d : Nat),
    s.hears → 1 ≤ slots.length → slots.length ≤ 256 → c.toNat % 512 = slots.length → (∀ k : Fin 4, s.contexts[k] = none) →
    ((s.receiver.expected = none ∧ d = 0) ∨ ∃ e, s.receiver.expected = some e ∧ (n - e).toNat = d ∧ d < 1024) →
    let a : Arrival := { number := n, gap := d, mark := m, slots := slots }
    let rows := s.receiver.history ++
      List.replicate d { kind := .missing, values := s.receiver.historySet.map fun _ => 0x8000 } ++
      [{ kind := .received, values := s.receiver.historySet.map fun x => slots.getD x.toNat 0x8000 }]
    (∀ (i : Fin 32) (w : Watch), s.watches[i] = some w → w.state = .armed → (w.contents.onArrival w.runtime a).1 = false) →
    exec (.sweepArrival h n m c slots) s = .next
      { s with
        port := { (s.heard (withCrc (sweepWords h n (m ||| s.port.markWord) c slots))).port with markWord := 0 }
        counters := setAt s.counters Counter.missedSweeps.index (satAdd (s.counter .missedSweeps) d)
        receiver := { s.receiver with expected := some (n + 1), history := rows.drop (rows.length - 1024) }
        watches := mapTable (fun _ o => o.map fun w =>
          if w.state = .armed then { w with runtime := (w.contents.onArrival w.runtime a).2 }
          else if w.state = .holdoff then w.countHoldoff d else w) s.watches }

/-- A SWEEP that goes backward or jumps by 1024 or more is a resync: RESYNCS is up, MISSED_SWEEPS is not; the history holds
this sweep's row only; run count, latch, previous value and last fire sweep of every watch are cleared, and a capture in
flight, here at most one, ends with SEQUENCE, before the sweep is evaluated with gap count 0. Here no condition is met then
(R22, R24, R74, R95). -/
def Obligations.ResyncStartsAnew : Prop :=
  ∀ (s u : State) (h : Header) (n m c : Word) (slots : List Word) (e : Sweep),
    s.hears → 1 ≤ slots.length → slots.length ≤ 256 → c.toNat % 512 = slots.length →
    s.receiver.expected = some e → 1024 ≤ (n - e).toNat →
    let a : Arrival := { number := n, gap := 0, mark := m, slots := slots }
    let broken : State := { s with
      counters := setAt s.counters Counter.resyncs.index (satAdd (s.counter .resyncs) 1)
      receiver := { s.receiver with history := [] }
      watches := mapTable (fun _ o => o.map fun w => { w with runtime := { w.runtime with
        run := 0, latch := .unknown, previous := none, lastFire := none } }) s.watches }
    (((∀ k : Fin 4, s.contexts[k] = none) ∧ u = broken) ∨
      (∃ (k : Fin 4) (x : Context), s.contexts[k] = some x ∧ (∀ l : Fin 4, l ≠ k → s.contexts[l] = none) ∧
        u = broken.endCapture k .sequence)) →
    (∀ (i : Fin 32) (w : Watch), u.watches[i] = some w → w.state = .armed → (w.contents.onArrival w.runtime a).1 = false) →
    exec (.sweepArrival h n m c slots) s = .next
      { u with
        port := { (s.heard (withCrc (sweepWords h n (m ||| s.port.markWord) c slots))).port with markWord := 0 }
        receiver := { s.receiver with
          expected := some (n + 1)
          history := [{ kind := .received, values := s.receiver.historySet.map fun x => slots.getD x.toNat 0x8000 }] }
        watches := mapTable (fun _ o => o.map fun w =>
          if w.state = .armed then { w with runtime := (w.contents.onArrival w.runtime a).2 }
          else if w.state = .holdoff then w.countHoldoff 0 else w) u.watches }

/-- LEVEL and MARK: a satisfied sample raises the run count, stopping at the qualifier, and meets the condition when the count
then equals it; an unsatisfied one sets the count to 0; an absent one changes nothing (R56, R57, R58). -/
def Obligations.LevelAndMarkRuns : Prop :=
  ∀ (c : Contents) (r : Runtime) (a : Arrival) (slot : BitVec 8) (lo hi v : Sample) (mask : Word),
    a.slots.getD slot.toNat 0x8000 = v →
    let level : List (Condition × Prop) :=
      [(.above slot hi, hi.toInt < v.toInt), (.below slot lo, v.toInt < lo.toInt),
       (.inside slot lo hi, lo.toInt ≤ v.toInt ∧ v.toInt ≤ hi.toInt),
       (.outside slot lo hi, v.toInt < lo.toInt ∨ hi.toInt < v.toInt)]
    let count := min (r.run + 1) c.qualifier
    (v = 0x8000 → ∀ x ∈ level, { c with condition := x.1 }.onArrival r a = (false, r)) ∧
    (∀ x ∈ level ++ [(.mark mask, a.mark &&& mask ≠ 0)], (v ≠ 0x8000 ∨ x.1 = .mark mask) →
      (x.2 → { c with condition := x.1 }.onArrival r a = (decide (count = c.qualifier), { r with run := count })) ∧
      (¬x.2 → { c with condition := x.1 }.onArrival r a = (false, { r with run := 0 })))

/-- RISE, FALL and STEP: the latch follows the threshold the sample is beyond, the condition is met by HIGH after LOW (RISE)
or LOW after HIGH (FALL); STEP compares with the previous present sample and keeps the present one; an absent sample changes
nothing (R56, R59, R60, R61). -/
def Obligations.EdgesAndSteps : Prop :=
  ∀ (c : Contents) (r : Runtime) (a : Arrival) (slot : BitVec 8) (lo hi v : Sample) (n : Nat), lo.toInt < hi.toInt →
    a.slots.getD slot.toNat 0x8000 = v →
    let rise := { c with condition := .rise slot lo hi }.onArrival r a
    let fall := { c with condition := .fall slot lo hi }.onArrival r a
    let step := { c with condition := .step slot n }.onArrival r a
    (v = 0x8000 → rise = (false, r) ∧ fall = (false, r) ∧ step = (false, r)) ∧
    (v ≠ 0x8000 →
      (v.toInt ≤ lo.toInt → rise = (false, { r with latch := .low }) ∧
        fall = (decide (r.latch = .high), { r with latch := .low })) ∧
      (lo.toInt < v.toInt → v.toInt < hi.toInt → rise = (false, r) ∧ fall = (false, r)) ∧
      (hi.toInt ≤ v.toInt → rise = (decide (r.latch = .low), { r with latch := .high }) ∧
        fall = (false, { r with latch := .high })) ∧
      (r.previous = none → step = (false, { r with previous := some v })) ∧
      (∀ u, r.previous = some u →
        step = (decide (n ≤ (v.toInt - u.toInt).natAbs), { r with previous := some v })))

/-- The end step: to HOLDOFF with the holdoff to count, to ARMED with run count, latch and previous value cleared, or to SPENT
with the runtime kept. An arrival record with gap count `d` takes `d` + 1 from the holdoff, and at 0 the watch goes to ARMED
or SPENT likewise (R71, R72). -/
def Obligations.EndStepAndHoldoff : Prop :=
  ∀ (w : Watch) (d : Nat),
    let armed (r : Runtime) : Runtime := { r with run := 0, latch := .unknown, previous := none }
    (0 < w.contents.holdoff → w.endStep =
      { w with state := .holdoff, runtime := { w.runtime with holdoffLeft := w.contents.holdoff } }) ∧
    (w.contents.holdoff = 0 → w.runtime.firesLeft ≠ some 0 →
      w.endStep = { w with state := .armed, runtime := armed w.runtime }) ∧
    (w.contents.holdoff = 0 → w.runtime.firesLeft = some 0 → w.endStep = { w with state := .spent }) ∧
    (d + 1 < w.runtime.holdoffLeft → w.countHoldoff d =
      { w with runtime := { w.runtime with holdoffLeft := w.runtime.holdoffLeft - (d + 1) } }) ∧
    (w.runtime.holdoffLeft ≤ d + 1 → w.runtime.firesLeft ≠ some 0 → w.countHoldoff d =
      { w with state := .armed, runtime := armed { w.runtime with holdoffLeft := 0 } }) ∧
    (w.runtime.holdoffLeft ≤ d + 1 → w.runtime.firesLeft = some 0 → w.countHoldoff d =
      { w with state := .spent, runtime := { w.runtime with holdoffLeft := 0 } })

/-- A SWEEP in sequence on which one watch, the only one ARMED or in HOLDOFF, meets its condition; no capture is in flight.
Where its precondition watch last fired within the window, or it has none, the fire takes place with the sweep's number as last
fire sweep, its mark, pulse and notice, and the end step at once or, with an action profile, the opening of a capture in
context 0, whose trigger row is this sweep's (R89; the opening is spelled in ForceOpensCapture); where not, only its runtime
moves (R64, R65, R67, R69 to R71). The mark rides on the next SWEEP, not on this one (R13). Whether the notice is posted before
the opening or after it is a draw (DESIGN CHOICE, log 6). -/
def Obligations.SweepFires : Prop :=
  ∀ (s : State) (h : Header) (n m c : Word) (slots : List Word) (i : Fin 32) (w : Watch),
    s.hears → 1 ≤ slots.length → slots.length ≤ 256 → c.toNat % 512 = slots.length → (∀ k : Fin 4, s.contexts[k] = none) →
    s.receiver.expected = some n → s.watches[i] = some w → w.state = .armed →
    (∀ (j : Fin 32) (v : Watch), s.watches[j] = some v → j ≠ i → v.state ≠ .armed ∧ v.state ≠ .holdoff) →
    let a : Arrival := { number := n, gap := 0, mark := m, slots := slots }
    (w.contents.onArrival w.runtime a).1 = true →
    let runtime := (w.contents.onArrival w.runtime a).2
    let rows := s.receiver.history ++
      [{ kind := .received, values := s.receiver.historySet.map fun x => slots.getD x.toNat 0x8000 }]
    let t := { s with
      port := { (s.heard (withCrc (sweepWords h n (m ||| s.port.markWord) c slots))).port with markWord := 0 }
      receiver := { s.receiver with expected := some (n + 1), history := rows.drop (rows.length - 1024) } }
    let satisfied : Prop := ∀ p, w.contents.precondition = some p →
      ∃ (v : Watch) (f : Sweep), s.watches[p.watch] = some v ∧ v.runtime.lastFire = some f ∧ (n - f).toNat < p.window
    let fired : Watch := { w with runtime := { runtime with
      lastFire := some n, firesLeft := runtime.firesLeft.map (· - 1) } }
    let served (x : Watch) : State := { t with
      counters := setAt s.counters Counter.fires.index (satAdd (s.counter .fires) 1)
      watches := setAt s.watches i (some x)
      port := { t.port with markWord := askedMark w.contents.markCode }
      lines := { s.lines with
        tout0 := startPulse w.contents.pulse.l0 s.lines.tout0, tout1 := startPulse w.contents.pulse.l1 s.lines.tout1 } }
    let drawn : State := { served fired with script := s.draw.2.script, draws := s.draw.2.draws }
    ((∀ p, w.contents.precondition = some p → p.watch < i) → satisfied →
      (w.contents.profile = none → exec (.sweepArrival h n m c slots) s = .next
        (if w.contents.notify then (served fired.endStep).post .watchFired i.val .watch else served fired.endStep)) ∧
      (∀ p, w.contents.profile = some p →
        (w.contents.notify = false → exec (.sweepArrival h n m c slots) s = .next
          ((served fired).openCapture 0 i p (some n) (some a)).2) ∧
        (w.contents.notify = true → s.draw.1 % 2 = 0 → exec (.sweepArrival h n m c slots) s = .next
          ((drawn.post .watchFired i.val .watch).openCapture 0 i p (some n) (some a)).2) ∧
        (w.contents.notify = true → s.draw.1 % 2 = 1 → exec (.sweepArrival h n m c slots) s = .next
          ((drawn.openCapture 0 i p (some n) (some a)).2.post .watchFired i.val .watch)))) ∧
    ((∀ p, w.contents.precondition = some p → p.watch < i) → ¬satisfied →
      exec (.sweepArrival h n m c slots) s = .next
        { t with watches := setAt s.watches i (some { w with runtime := runtime }) })

/-! ### Captures -/

/-- Openings of captures (R66, R67, R69, R70, R84 to R89, R108 to R110). A FORCE of an ARMED watch with an action profile,
where some context is IDLE: the fire, its notice where it is asked for, and the opening in the lowest IDLE context, with the
expected sweep, or none, as trigger. An opening: without a segment the capture is lost and the watch takes its end step; with
the segment that the allocation grants or reclaims, the record is the header, the pre rows the history holds, oldest first,
trimmed so that one row more fits, and, on an arrival record, the trigger row, after which the capture is COMPLETE where post
is 1; without a trigger sweep there are no pre rows; every other word of capture memory is as it was. Last, the whole of a
FORCE without a notice whose segment is FREE. Capture memory is canonical (kept by StoresStayWithin). The words of bodies are
the model's reading (DEDUCED, log 12 to 14), the codes of the outcome its choice (DESIGN CHOICE, log 27); whether the notice
is posted before the opening or after it is a draw (DESIGN CHOICE, log 6). -/
def Obligations.ForceOpensCapture : Prop :=
  (∀ (s : State) (r : Request) (i : Fin 32) (w : Watch) (p : Fin 8) (k : Fin 4), s.permits r .force →
    r.number 0 = i.val → s.watches[i] = some w → w.state = .armed → w.contents.profile = some p → s.contexts[k] = none →
    (∀ l : Fin 4, l < k → (s.contexts[l]).isSome = true) →
    let fired : State := { s with
      counters := setAt s.counters Counter.fires.index (satAdd (s.counter .fires) 1)
      port := { s.port with markWord := s.port.markWord ||| askedMark w.contents.markCode }
      lines := { s.lines with
        tout0 := startPulse w.contents.pulse.l0 s.lines.tout0, tout1 := startPulse w.contents.pulse.l1 s.lines.tout1 }
      watches := setAt s.watches i (some { w with runtime := { w.runtime with
        lastFire := s.receiver.expected, firesLeft := w.runtime.firesLeft.map (· - 1) } }) }
    let drawn : State := { fired with script := s.draw.2.script, draws := s.draw.2.draws }
    let opened (u : State) : Bool × State := u.openCapture k i p s.receiver.expected none
    let answer (granted : Bool) (u : State) : Host.Outcome State Fault Refusal :=
      .next (s.controlled u r .force (.ok [BitVec.ofNat 16 i.val, 0, if granted then BitVec.ofNat 16 k.val else 0xFFFF,
        if granted then 0 else 1, BitVec.ofNat 16 (watchCode u.watches[i])]))
    (w.contents.notify = false → exec (.force r) s = answer (opened fired).1 (opened fired).2) ∧
    (w.contents.notify = true → s.draw.1 % 2 = 0 →
      let u := opened (drawn.post .watchFired i.val .watch)
      exec (.force r) s = answer u.1 u.2) ∧
    (w.contents.notify = true → s.draw.1 % 2 = 1 →
      exec (.force r) s = answer (opened drawn).1 ((opened drawn).2.post .watchFired i.val .watch))) ∧
  (∀ (s : State) (k : Fin 4) (i : Fin 32) (p : Fin 8) (prof : Profile) (trigger : Option Sweep) (o : Option Arrival),
    s.profiles[p] = some prof →
    (s.allocate k (s.captureSeq + 1) prof = none →
      let counted : State := { s with
        counters := setAt s.counters Counter.capturesLost.index (satAdd (s.counter .capturesLost) 1) }
      s.openCapture k i p trigger o = (false,
        { counted.post .captureLost i.val .watch with watches := setAt s.watches i ((s.watches[i]).map Watch.endStep) })) ∧
    (∀ (g : Fin 64) (t : State) (lag : Nat), s.allocate k (s.captureSeq + 1) prof = some (g, t) →
      1 ≤ prof.slots.length → prof.slots.length ≤ 16 → 1 ≤ prof.decimation → prof.pre * prof.decimation ≤ 1024 →
      64 ≤ s.ring.segSize → Memory.wf s.ring.mem →
      ((o = none ∧ trigger = s.receiver.expected ∧ lag = 0) ∨
        (∃ a : Arrival, o = some a ∧ trigger = some a.number ∧ s.receiver.expected = some (a.number + 1) ∧ lag = 1)) →
      let size := (prof.slots.length + 1) / 2
      let held := if trigger = none then [] else (List.range prof.pre).reverse.filterMap fun j =>
        if (j + 1) * prof.decimation + lag ≤ s.receiver.history.length then
          s.receiver.history[s.receiver.history.length - ((j + 1) * prof.decimation + lag)]? else none
      let rows := held.drop (held.length - ((s.ring.segSize - 12) / size - 1))
      let last : List (List Sample) := match o with
        | none => []
        | some a => [prof.slots.map fun x => a.slots.getD x.toNat 0x8000]
      let used := 12 + (rows.length + last.length) * size
      let c : Context :=
        { watchRef := some i, openingWatch := i, profileIndex := p, snapshot := prof, segment := g,
          sequence := s.captureSeq + 1, trigger := trigger, pre := rows.length, post := last.length,
          gap := rows.countP fun row => row.kind = .missing
          nextDue := match o with
            | none => trigger
            | some a => some (a.number + BitVec.ofNat 16 prof.decimation)
          used := used }
      let record := c.header .inProgress s.events.timeBase ++
        ((rows.map fun row => prof.slots.map fun x => row.values.getD (s.receiver.historySet.idxOf x) 0x8000) ++
          last).flatMap packRow
      ∃ mem : Memory,
        (∀ a, mem.read a = if g.val * s.ring.segSize ≤ a ∧ a < g.val * s.ring.segSize + used then
          record.getD (a - g.val * s.ring.segSize) 0 else s.ring.mem.read a) ∧
        let u : State := { t with
          captureSeq := s.captureSeq + 1
          contexts := setAt s.contexts k (some c)
          watches := setAt s.watches i ((s.watches[i]).map fun x => { x with state := .fired })
          ring := { t.ring with
            mem := mem
            segs := setAt t.ring.segs g (some
              { state := .filling k, sequence := s.captureSeq + 1, fill := used, highWater := 0,
                autoRelease := prof.autoRelease, endReason := .inProgress }) } }
        s.openCapture k i p trigger o =
          (true, if o.isSome = true ∧ prof.post = 1 then u.endCapture k .complete else u))) ∧
  ∀ (s : State) (r : Request) (i : Fin 32) (w : Watch) (p : Fin 8) (prof : Profile) (k : Fin 4) (g : Fin 64) (x : Nat)
    (e : Sweep),
    s.permits r .force → r.number 0 = i.val → s.watches[i] = some w → w.state = .armed → w.contents.notify = false →
    w.contents.profile = some p → s.profiles[p] = some prof → 1 ≤ prof.slots.length → prof.slots.length ≤ 16 →
    1 ≤ prof.decimation → prof.pre * prof.decimation ≤ 1024 → s.receiver.expected = some e →
    Memory.wf s.ring.mem →
    s.contexts[k] = none → (∀ l : Fin 4, l < k → (s.contexts[l]).isSome = true) →
    s.ring.segCount ≤ 64 → 64 ≤ s.ring.segSize → x < s.ring.segCount → g.val = (s.ring.cursor + x) % s.ring.segCount →
    s.ring.segs[g] = none →
    (∀ (y : Nat) (f : Fin 64), y < x → f.val = (s.ring.cursor + y) % s.ring.segCount → (s.ring.segs[f]).isSome = true) →
    let size := (prof.slots.length + 1) / 2
    let held := ((List.range prof.pre).reverse.filterMap fun j =>
      if (j + 1) * prof.decimation ≤ s.receiver.history.length then
        s.receiver.history[s.receiver.history.length - (j + 1) * prof.decimation]? else none)
    let rows := held.drop (held.length - ((s.ring.segSize - 12) / size - 1))
    let used := 12 + rows.length * size
    let c : Context :=
      { watchRef := some i, openingWatch := i, profileIndex := p, snapshot := prof, segment := g,
        sequence := s.captureSeq + 1, trigger := some e, pre := rows.length, post := 0,
        gap := rows.countP fun row => row.kind = .missing, nextDue := some e, used := used }
    let record := c.header .inProgress s.events.timeBase ++ rows.flatMap fun row =>
      packRow (prof.slots.map fun slot => row.values.getD (s.receiver.historySet.idxOf slot) 0x8000)
    ∃ mem : Memory,
      (∀ a, mem.read a = if g.val * s.ring.segSize ≤ a ∧ a < g.val * s.ring.segSize + used then
        record.getD (a - g.val * s.ring.segSize) 0 else s.ring.mem.read a) ∧
      exec (.force r) s = .next (s.controlled
        { s with
          counters := setAt s.counters Counter.fires.index (satAdd (s.counter .fires) 1)
          port := { s.port with markWord := s.port.markWord ||| askedMark w.contents.markCode }
          lines := { s.lines with
            tout0 := startPulse w.contents.pulse.l0 s.lines.tout0, tout1 := startPulse w.contents.pulse.l1 s.lines.tout1 }
          captureSeq := s.captureSeq + 1
          contexts := setAt s.contexts k (some c)
          watches := setAt s.watches i (some { w with state := .fired, runtime := { w.runtime with
            lastFire := some e, firesLeft := w.runtime.firesLeft.map (· - 1) } })
          ring := { s.ring with
            mem := mem, cursor := (g.val + 1) % s.ring.segCount
            segs := setAt s.ring.segs g (some
              { state := .filling k, sequence := s.captureSeq + 1, fill := used, highWater := 0,
                autoRelease := prof.autoRelease, endReason := .inProgress }) } }.ringLowTest
        r .force (.ok [BitVec.ofNat 16 i.val, 0, BitVec.ofNat 16 k.val, 0, 3]))

/-- A SWEEP while one capture is in flight and no watch is ARMED or in HOLDOFF. In sequence, its trigger sweep known: where the
sweep is not due nothing is written; where it is due and a row fits, the row is written after the words used, with the header's
counts, and the capture ends COMPLETE at its last row; where no row fits it ends TRUNCATED. With a gap, or at the start of a
sequence: a capture that waits for its trigger sweep takes this one, and header word 1 is written anew; then the covered
sweeps, the missing ones first, are taken one at a time, a missing one as an absent row that is a gap row, until the capture
ends (R66, R89 to R92). A draw for the order of rows and watches is taken, which no watch shows here (DESIGN CHOICE, log 6). -/
def Obligations.SweepRecordsRow : Prop :=
  (∀ (s : State) (h : Header) (n m w : Word) (slots : List Word) (k : Fin 4) (c : Context) (t0 : Sweep),
    s.hears → 1 ≤ slots.length → slots.length ≤ 256 → w.toNat % 512 = slots.length → s.receiver.expected = some n →
    s.contexts[k] = some c → (∀ l : Fin 4, l ≠ k → s.contexts[l] = none) → c.trigger = some t0 →
    (∀ (j : Fin 32) (v : Watch), s.watches[j] = some v → v.state ≠ .armed ∧ v.state ≠ .holdoff) →
    let rows := s.receiver.history ++
      [{ kind := .received, values := s.receiver.historySet.map fun x => slots.getD x.toNat 0x8000 }]
    let t := { s.draw.2 with
      port := { (s.heard (withCrc (sweepWords h n (m ||| s.port.markWord) w slots))).port with markWord := 0 }
      receiver := { s.receiver with expected := some (n + 1), history := rows.drop (rows.length - 1024) } }
    let size := (c.snapshot.slots.length + 1) / 2
    let d := { c with post := c.post + 1, used := c.used + size,
                      nextDue := some (n + BitVec.ofNat 16 c.snapshot.decimation) }
    let base := c.segment.val * s.ring.segSize
    let written := { t with
      contexts := setAt s.contexts k (some d)
      ring := { s.ring with
        mem := (((s.ring.mem.writeAll (base + c.used)
          (packRow (c.snapshot.slots.map fun x => slots.getD x.toNat 0x8000))).write (base + 3) d.word3).write (base + 4)
          (BitVec.ofNat 32 c.gap)).write (base + 7) (BitVec.ofNat 32 d.used)
        segs := setAt s.ring.segs c.segment ((s.ring.segs[c.segment]).map fun x => { x with fill := d.used }) } }
    (c.nextDue ≠ some n → exec (.sweepArrival h n m w slots) s = .next t) ∧
    (c.nextDue = some n → s.ring.segSize < c.used + size →
      exec (.sweepArrival h n m w slots) s = .next (t.endCapture k .truncated)) ∧
    (c.nextDue = some n → c.used + size ≤ s.ring.segSize → d.post ≠ c.snapshot.post →
      exec (.sweepArrival h n m w slots) s = .next written) ∧
    (c.nextDue = some n → c.used + size ≤ s.ring.segSize → d.post = c.snapshot.post →
      exec (.sweepArrival h n m w slots) s = .next (written.endCapture k .complete))) ∧
  (∀ (s : State) (h : Header) (n m w : Word) (slots : List Word) (d : Nat) (k : Fin 4) (c : Context),
    s.hears → 1 ≤ slots.length → slots.length ≤ 256 → w.toNat % 512 = slots.length →
    ((s.receiver.expected = none ∧ d = 0) ∨ ∃ e, s.receiver.expected = some e ∧ (n - e).toNat = d ∧ d < 1024) →
    s.contexts[k] = some c → (∀ l : Fin 4, l ≠ k → s.contexts[l] = none) →
    (∀ (j : Fin 32) (v : Watch), s.watches[j] = some v → v.state ≠ .armed ∧ v.state ≠ .holdoff) →
    let a : Arrival := { number := n, gap := d, mark := m, slots := slots }
    let rows := s.receiver.history ++
      List.replicate d { kind := .missing, values := s.receiver.historySet.map fun _ => 0x8000 } ++
      [{ kind := .received, values := s.receiver.historySet.map fun x => slots.getD x.toNat 0x8000 }]
    let t := { s.draw.2 with
      port := { (s.heard (withCrc (sweepWords h n (m ||| s.port.markWord) w slots))).port with markWord := 0 }
      counters := setAt s.counters Counter.missedSweeps.index (satAdd (s.counter .missedSweeps) d)
      receiver := { s.receiver with expected := some (n + 1), history := rows.drop (rows.length - 1024) } }
    let learned : Context := { c with trigger := some n, nextDue := some n }
    let word1 : CapWord := n ++ 1#1 ++ BitVec.ofNat 5 c.snapshot.slots.length ++ 0#1 ++ BitVec.ofNat 9 c.snapshot.decimation
    let ready := if c.trigger = none then { t with
        contexts := setAt s.contexts k (some learned)
        ring := { s.ring with mem := s.ring.mem.write (c.segment.val * s.ring.segSize + 1) word1 } } else t
    exec (.sweepArrival h n m w slots) s = .next
      (((List.range d).map (fun x => (n - BitVec.ofNat 16 (d - x), true)) ++ [(n, false)]).foldl
        (fun u x => u.coverSweep k a x) ready)) ∧
  ∀ (s : State) (k : Fin 4) (a : Arrival) (number : Sweep) (missing : Bool),
    (s.contexts[k] = none → s.coverSweep k a (number, missing) = s) ∧
    ∀ c : Context, s.contexts[k] = some c →
      let size := (c.snapshot.slots.length + 1) / 2
      let values := c.snapshot.slots.map fun x => if missing then 0x8000 else a.slots.getD x.toNat 0x8000
      let d := { c with post := c.post + 1, gap := if missing then c.gap + 1 else c.gap, used := c.used + size,
                        nextDue := some (number + BitVec.ofNat 16 c.snapshot.decimation) }
      let base := c.segment.val * s.ring.segSize
      let written := { s with
        contexts := setAt s.contexts k (some d)
        ring := { s.ring with
          mem := (((s.ring.mem.writeAll (base + c.used) (packRow values)).write (base + 3) d.word3).write (base + 4)
            (BitVec.ofNat 32 d.gap)).write (base + 7) (BitVec.ofNat 32 d.used)
          segs := setAt s.ring.segs c.segment ((s.ring.segs[c.segment]).map fun x => { x with fill := d.used }) } }
      (c.nextDue ≠ some number → s.coverSweep k a (number, missing) = s) ∧
      (c.nextDue = some number →
        (s.ring.segSize < c.used + size → s.coverSweep k a (number, missing) = s.endCapture k .truncated) ∧
        (c.used + size ≤ s.ring.segSize →
          s.coverSweep k a (number, missing) =
            if d.post = c.snapshot.post then written.endCapture k .complete else written))

/-! ### The notice unit -/

/-- A posting: it raises the repeat count of the QUEUED entry of the same kind and subject, stopping at 255; else it joins the
young end of a queue of fewer than 32; else it evicts the youngest QUEUED entry of the lowest priority where its own is
higher, and is dropped where not, and either way NOTICES_DROPPED is up and the overflow latch set. Nothing else changes (R128,
R129). -/
def Obligations.PostingsAreSettled : Prop :=
  ∀ (s : State) (kind : NoticeKind) (subject : Nat) (cls : SubjectClass),
    let q := s.notices.queue
    let new : Notice := { kind := kind, subject := subject, cls := cls, repeats := 1, sent := none }
    let put (q' : List Notice) : State := { s with notices := { s.notices with queue := q' } }
    let lost (q' : List Notice) : State := { s with
      notices := { s.notices with queue := q', overflow := true }
      counters := setAt s.counters Counter.noticesDropped.index (satAdd (s.counter .noticesDropped) 1) }
    let same (n : Notice) : Prop := n.sent = none ∧ n.kind = kind ∧ n.subject = subject ∧ n.cls = cls
    (∀ (before after : List Notice) (n : Notice), q = before ++ n :: after → (∀ x ∈ before, ¬same x) → same n →
      s.post kind subject cls = put (before ++ { n with repeats := min (n.repeats + 1) 255 } :: after)) ∧
    ((∀ x ∈ q, ¬same x) →
      (q.length < 32 → s.post kind subject cls = put (q ++ [new])) ∧
      (32 ≤ q.length → ∀ (before after : List Notice) (n : Notice), q = before ++ n :: after → n.sent = none →
        (∀ x ∈ q, x.sent = none → n.kind.priority ≤ x.kind.priority) →
        (∀ x ∈ after, x.sent = none → x.kind.priority ≠ n.kind.priority) →
        (n.kind.priority < kind.priority → s.post kind subject cls = lost (before ++ after ++ [new])) ∧
        (kind.priority ≤ n.kind.priority → s.post kind subject cls = lost q)))

/-- The offer of an IDLE of 16 words or more. A due entry, the one first sent earliest, is resent under its number. Else, with
fewer than 8 SENT, the oldest QUEUED entry of the highest priority is sent under the first free number from the next notice
number on. Either NOTICE takes the IDLE's place, carries the overflow latch and clears it. Else the IDLE leaves unchanged
(R16, R130, R131, R132, R133). The stamp of the first send is the model's (DEDUCED, log 16). -/
def Obligations.OfferSendsNotice : Prop :=
  ∀ (s : State) (h : Header) (second : Word) (padding : List Word), s.hears → 13 ≤ padding.length → padding.length ≤ 261 →
    let idle := withCrc ([headerWord .idle h.dest h.src, second] ++ padding)
    let ticks := s.params.noticeResend * 10000
    let sent (n : Notice) (x : Sent) : Notice := { n with sent := some x }
    let frame (n : Notice) (number : BitVec 8) : List Word := withCrc
      ([headerWord .notice (BitVec.ofNat 6 s.params.noticeSink) s.strap, number ++ 0#4 ++ n.kind.code,
        (if s.notices.overflow then 1 else 0) ||| (if n.kind = .captureLost ∧ n.cls = .segment then 2 else 0),
        BitVec.ofNat 16 n.subject, BitVec.ofNat 16 n.repeats] ++ List.replicate 10 0x8000)
    (∀ (before after : List Notice) (n : Notice) (x : Sent), s.notices.queue = before ++ n :: after → n.sent = some x →
      x.due = true →
      (∀ (m : Notice) (y : Sent), m ∈ before → m.sent = some y → y.due = true → x.order < y.order) →
      (∀ (m : Notice) (y : Sent), m ∈ after → m.sent = some y → y.due = true → x.order ≤ y.order) →
      exec (.idleOffer h second padding) s = .next
        { s.heard (frame n x.number) with
          notices := { s.notices with
            overflow := false
            queue := before ++ sent n { x with resends := x.resends + 1, timer := some ticks, due := false } :: after } }) ∧
    ((∀ (m : Notice) (y : Sent), m ∈ s.notices.queue → m.sent = some y → y.due = false) →
      (∀ (before after : List Notice) (n : Notice) (number : BitVec 8), s.notices.queue = before ++ n :: after →
        n.sent = none → (s.notices.queue.filter fun m => m.sent.isSome).length < 8 →
        (∀ m ∈ before, m.sent = none → m.kind.priority < n.kind.priority) →
        (∀ m ∈ after, m.sent = none → m.kind.priority ≤ n.kind.priority) →
        (∀ (m : Notice) (y : Sent), m ∈ s.notices.queue → m.sent = some y → y.number ≠ number) →
        (∀ x : BitVec 8, (x - s.notices.nextNumber).toNat < (number - s.notices.nextNumber).toNat →
          ∃ (m : Notice) (y : Sent), m ∈ s.notices.queue ∧ m.sent = some y ∧ y.number = x) →
        exec (.idleOffer h second padding) s = .next
          { s.heard (frame n number) with
            notices := { s.notices with
              nextNumber := number + 1, overflow := false, sends := s.notices.sends + 1
              queue := before ++
                sent n { number := number, resends := 0, timer := some ticks, due := false, order := s.notices.sends } ::
                after } }) ∧
      ((8 ≤ (s.notices.queue.filter fun m => m.sent.isSome).length ∨ ∀ m ∈ s.notices.queue, m.sent ≠ none) →
        exec (.idleOffer h second padding) s = .next (s.heard idle)))

/-- A resend timer runs out: the entry becomes due while resends are left to it; at NOTICE_LIMIT it is removed and
NOTICES_EXPIRED is up (R133). A run-out acts whenever the timer runs (DESIGN CHOICE, log 5). -/
def Obligations.ResendRunsOut : Prop :=
  ∀ (s : State) (number : BitVec 8) (before after : List Notice) (n : Notice) (x : Sent) (left : Nat),
    s.resetLow = false → s.notices.queue = before ++ n :: after → n.sent = some x → x.number = number →
    x.timer = some left → (∀ (m : Notice) (y : Sent), m ∈ before → m.sent = some y → y.number ≠ number) →
    (x.resends < s.params.noticeLimit →
      exec (.resendTimerRunOut number) s = .next { s with notices := { s.notices with
        queue := before ++ { n with sent := some { x with timer := none, due := true } } :: after } }) ∧
    (s.params.noticeLimit ≤ x.resends →
      exec (.resendTimerRunOut number) s = .next { s with
        notices := { s.notices with queue := before ++ after }
        counters := setAt s.counters Counter.noticesExpired.index (satAdd (s.counter .noticesExpired) 1) })

/-- ACK NOTICES from NOTICE_SINK: each number in list order removes the SENT entry that bears it, and the response counts
matched, unmatched, left and SENT. A count of 0 or above 8, a missing number, or one above 255, is RANGE (R135, R157). The
words of bodies are the model's reading (DEDUCED, log 12 to 14). -/
def Obligations.AckRemovesSent : Prop :=
  ∀ (s : State) (r : Request), s.admits r .ackNotices → r.src.toNat = s.params.noticeSink →
    (∀ (numbers : List (BitVec 8)) (pad : List Word) (queue : List Notice),
      r.body = BitVec.ofNat 16 numbers.length :: (numbers.map (BitVec.setWidth 16) ++ pad) →
      1 ≤ numbers.length → numbers.length ≤ 8 →
      queue = numbers.foldl (fun q x => q.eraseP fun n => n.sent.any fun y => y.number == x) s.notices.queue →
      exec (.ackNotices r) s = .next (s.observed { s with notices := { s.notices with queue := queue } } r .ackNotices
        (.ok [BitVec.ofNat 16 (s.notices.queue.length - queue.length),
          BitVec.ofNat 16 (numbers.length - (s.notices.queue.length - queue.length)), BitVec.ofNat 16 queue.length,
          BitVec.ofNat 16 (queue.filter fun n => n.sent.isSome).length]))) ∧
    ((r.number 0 = 0 ∨ 8 < r.number 0 ∨ r.body.length ≤ r.number 0 ∨
        ∃ k, 1 ≤ k ∧ k ≤ r.number 0 ∧ 255 < r.number k) →
      exec (.ackNotices r) s = .next (s.observed s r .ackNotices (.other .range [])))

/-! ### Events, lines and the lease timer -/

/-- An EVENT that is broadcast leaves unchanged, one to the node's address as an IDLE of its length. With IMMEDIATE, or
EVENT_DELAY 0, it is applied at once; else it waits EVENT_DELAY where fewer than four wait; else it is dropped, EVENTS_DROPPED
is up and EVENT_DROPPED is posted (R12, R142). -/
def Obligations.EventArrivalDisposed : Prop :=
  ∀ (s : State) (h : Header) (second : Word) (padding : List Word), s.hears → (h.dest = 63 ∨ h.dest = s.strap) →
    padding.length ≤ 261 →
    let frame := if h.dest = 63 then withCrc ([headerWord .event h.dest h.src, second] ++ padding)
      else withCrc ([0, 0] ++ List.replicate padding.length 0x8000)
    let code : Fin 16 := Fin.ofNat 16 second.toNat
    ((second.getLsbD 15 = true ∨ s.params.eventDelay = 0) →
      exec (.eventArrival h second padding) s = .next ((s.heard frame).applyEvent code)) ∧
    (second.getLsbD 15 = false → s.params.eventDelay ≠ 0 →
      (s.events.waiting.length < 4 →
        exec (.eventArrival h second padding) s = .next { s.heard frame with
          events := { s.events with waiting := s.events.waiting ++ [{ code := code, ticks := s.params.eventDelay }] } }) ∧
      (4 ≤ s.events.waiting.length →
        exec (.eventArrival h second padding) s = .next
          ({ s.heard frame with
              counters := setAt s.counters Counter.eventsDropped.index (satAdd (s.counter .eventsDropped) 1) }.post
            .eventDropped code.val .code)))

/-- The expiry of a waiting event removes its entry and applies it: an enabled entry disarms its groups, arms its groups,
zeroes the time base where it says so and pulses its lines; a disabled entry does none of it. Then the code is offered: where
no watch ARMED by then looks for it nothing more happens; where one does, without an action profile, it fires at the expected
sweep, or none, if its precondition is satisfied, and nothing happens if it is not (R62, R64 to R66, R69, R71, R143, R147). A
run-out acts whenever the timer runs (DESIGN CHOICE, log 5). -/
def Obligations.EventExpiryApplies : Prop :=
  ∀ (s : State) (before after : List WaitingEvent) (x : WaitingEvent) (e : EventEntry), s.resetLow = false →
    s.events.waiting = before ++ x :: after → s.events.table[x.code] = e →
    let t := { s with events := { s.events with waiting := before ++ after } }
    let walked := (t.disarmGroup e.disarm).armGroup e.arm
    let applied : State := if e.enable = true then
        { walked with
          events := { walked.events with timeBase := if e.zeroTime then 0 else s.events.timeBase }
          lines := { s.lines with
            tout0 := startPulse e.pulse.l0 s.lines.tout0, tout1 := startPulse e.pulse.l1 s.lines.tout1 } }
      else t
    let hears (i : Fin 32) (w : Watch) : Prop :=
      applied.watches[i] = some w ∧ w.state = .armed ∧ w.contents.condition = .event x.code
    ((∀ (i : Fin 32) (w : Watch), ¬hears i w) → exec (.eventExpiry before.length) s = .next applied) ∧
    (∀ (i : Fin 32) (w : Watch), hears i w → (∀ (j : Fin 32) (v : Watch), hears j v → j = i) →
      w.contents.profile = none →
      let satisfied : Prop := ∀ p, w.contents.precondition = some p →
        ∃ (v : Watch) (n f : Sweep), applied.watches[p.watch] = some v ∧ s.receiver.expected = some n ∧
          v.runtime.lastFire = some f ∧ (n - f).toNat < p.window
      let served : State := { applied with
        counters := setAt s.counters Counter.fires.index (satAdd (s.counter .fires) 1)
        watches := setAt applied.watches i (some ({ w with runtime := { w.runtime with
          lastFire := s.receiver.expected, firesLeft := w.runtime.firesLeft.map (· - 1) } } : Watch).endStep)
        port := { s.port with markWord := if s.port.link = .up then s.port.markWord ||| askedMark w.contents.markCode
          else s.port.markWord }
        lines := { applied.lines with
          tout0 := startPulse w.contents.pulse.l0 applied.lines.tout0
          tout1 := startPulse w.contents.pulse.l1 applied.lines.tout1 } }
      (satisfied → exec (.eventExpiry before.length) s = .next
        (if w.contents.notify then served.post .watchFired i.val .watch else served)) ∧
      (¬satisfied → exec (.eventExpiry before.length) s = .next applied))

/-- The lines, either of them. A new level other than the settled one starts the candidate timer with 200 ns, the settled one
stops it, and a level that is there already changes nothing. When the timer runs out the level is settled; from LOW or HIGH it
is an edge, which fires the one ARMED LINE watch that looks for it (no profile, no precondition, no notice asked for); from
UNSETTLED it is none. A request starts a pulse of 1 µs on a line at rest and is absorbed by a pulse that runs; a pulse's
run-out brings its line to rest (R54, R62, R151, R152, R153). A run-out acts whenever the timer runs (DESIGN CHOICE, log 5),
and a command that finds nothing to act on changes nothing (DEDUCED, log 23). -/
def Obligations.TriggerLinesWork : Prop :=
  ∀ (s : State) (line : Line) (high : Bool), s.resetLow = false →
    let d : Detector := if line = .l0 then s.lines.tin0 else s.lines.tin1
    let put (x : Detector) : Lines := if line = .l0 then { s.lines with tin0 := x } else { s.lines with tin1 := x }
    (startPulse true none = some 10 ∧ startPulse false none = none ∧
      ∀ (asked : Bool) (left : Nat), startPulse asked (some left) = some left) ∧
    exec (.pulseTimerRunOut line) s = .next { s with lines := { s.lines with
      tout0 := if line = .l0 then none else s.lines.tout0, tout1 := if line = .l1 then none else s.lines.tout1 } } ∧
    (d.level = high → exec (.tinLevelChange line high) s = .next s) ∧
    (d.level ≠ high → exec (.tinLevelChange line high) s = .next { s with lines := put { d with
      level := high, timer := if d.settled = (if high then .high else .low) then none else some 2 } }) ∧
    (d.timer = none → exec (.candidateTimerRunOut line) s = .next s) ∧
    (d.level = high → d.timer.isSome = true →
      let settled : Lines := put { settled := if high then .high else .low, level := high, timer := none }
      let edge : Edge := if high then .rising else .falling
      let reported := d.settled = (if high then .low else .high)
      ((¬reported ∨ ∀ (i : Fin 32) (w : Watch), s.watches[i] = some w → w.state = .armed →
          w.contents.condition ≠ .line line edge) →
        exec (.candidateTimerRunOut line) s = .next { s with lines := settled }) ∧
      (∀ (i : Fin 32) (w : Watch), reported → s.watches[i] = some w → w.state = .armed →
        w.contents.condition = .line line edge → w.contents.precondition = none → w.contents.profile = none →
        w.contents.notify = false →
        (∀ (j : Fin 32) (v : Watch), s.watches[j] = some v → v.state = .armed →
          v.contents.condition = .line line edge → j = i) →
        exec (.candidateTimerRunOut line) s = .next { s with
          counters := setAt s.counters Counter.fires.index (satAdd (s.counter .fires) 1)
          watches := setAt s.watches i (some ({ w with runtime := { w.runtime with
            lastFire := s.receiver.expected, firesLeft := w.runtime.firesLeft.map (· - 1) } } : Watch).endStep)
          port := { s.port with markWord := if s.port.link = .up then s.port.markWord ||| askedMark w.contents.markCode
            else s.port.markWord }
          lines := { settled with
            tout0 := startPulse w.contents.pulse.l0 s.lines.tout0
            tout1 := startPulse w.contents.pulse.l1 s.lines.tout1 } }))

/-- A broadcast or own RESET from the head: the mark word is discarded, the receiver forgets the sequence, a capture in flight,
here at most one, ends with RESET and no notice, every watch is IDLE with a fresh runtime, READING segments return to FULL, the
notice queue is emptied with its number and its latch, waiting events are dropped, the origin table is emptied and the lease is
gone. Profiles, history set, format, parameters, counters but CAPTURES_DONE, event table, time base and lines are kept (R10,
R14, R32, R51, R96, R121, R138, R155, R174). -/
def Obligations.LoopResetClears : Prop :=
  ∀ (s u : State) (h : Header) (second : Word) (padding : List Word), s.hears → h.src = 0 →
    (h.dest = 63 ∨ h.dest = s.strap) → padding.length ≤ 261 →
    let t := s.heard (if h.dest = 63 then withCrc ([headerWord .reset h.dest 0, second] ++ padding)
      else withCrc ([0, 0] ++ List.replicate padding.length 0x8000))
    let quiet : State := { t with
      port := { t.port with markWord := 0 }
      receiver := { s.receiver with expected := none, history := [] } }
    (((∀ k : Fin 4, s.contexts[k] = none) ∧ u = quiet) ∨
      (∃ (k : Fin 4) (x : Context), s.contexts[k] = some x ∧ (∀ l : Fin 4, l ≠ k → s.contexts[l] = none) ∧
        u = quiet.endCapture k .reset)) →
    exec (.loopReset h second padding) s = .next
      { u with
        watches := mapTable (fun _ o => o.map fun w => { w with state := .idle, runtime :=
          { run := 0, latch := .unknown, previous := none, lastFire := none, firesLeft := w.contents.budget,
            holdoffLeft := 0, refusals := 0 } }) u.watches
        ring := { u.ring with segs := mapTable (fun _ o => o.map fun x =>
          { x with state := if x.state = .reading then .full else x.state }) u.ring.segs }
        notices := { s.notices with queue := [], nextNumber := 0, overflow := false }
        events := { s.events with waiting := [] }
        session := { origins := [], holder := none, leaseTimer := none } }

/-! ### The request handler -/

/-- Checks 1 to 3 of R162. Too short a frame: ROOM, no body. A control request, which is every kind but those of the observe
list and READ COUNTERS with the clear option no, from an origin that is not the holder; an ACK NOTICES from another origin
than NOTICE_SINK; a TAKEOVER from another than TAKEOVER_ORIGIN, here not the holder's own: DENIED with holder and time
remaining. A kind code of 0 or 33 to 255: UNKNOWN, no body. None has any other effect, but that the holder's control request
of a known kind restarts the lease timer (R162, R164, R166). The model's reading: empty bodies and the words of the lease
(DEDUCED, log 13), the class of READ COUNTERS (DEDUCED, log 18). -/
def Obligations.RefusedUnexecuted : Prop :=
  (∀ (s : State) (c : Instr) (r : Request) (k : RequestKind), requestOf c = some (r, k) → s.reached r → s.isNew r →
     let observe : Prop := k ∈ [RequestKind.status, .getParam, .getWatch, .getProfile, .getContexts, .getEventEntry,
       .segmentInfo, .scan, .claim, .ackNotices] ∨ (k = .readCounters ∧ r.number 0 % 256 = 0)
     (r.room < k.fixedReply →
       ((observe ∨ s.session.holder ≠ some r.src) → exec c s = .next (s.observed s r k (.other .room []))) ∧
       (¬observe → s.session.holder = some r.src → exec c s = .next (s.controlled s r k (.other .room [])))) ∧
     (k.fixedReply ≤ r.room →
       ((¬observe ∧ k ≠ .takeover ∧ s.session.holder ≠ some r.src) ∨
         (k = .ackNotices ∧ r.src.toNat ≠ s.params.noticeSink) ∨
         (k = .takeover ∧ r.src.toNat ≠ s.params.takeoverOrigin ∧ s.session.holder ≠ some r.src)) →
       exec c s = .next (s.observed s r k (.other .denied s.leaseWords)))) ∧
  (∀ (s : State) (r : Request) (code : BitVec 8), s.reached r → s.isNew r → (code = 0 ∨ 32 < code.toNat) →
     exec (.unknownRequest r code) s = .next (s.answered s r code (.other .unknown []) s.session.leaseTimer))

/-- A request whose sequence number is the last one of its origin is a replay, whatever its kind and its sender's rights:
REPLAYS is up, the cached response leaves with REPLAYED set, or ROOM with REPLAYED set where it does not fit, the origin's
entry becomes the most recently used, and nothing else changes (R160, R161). That such a ROOM carries no SHORT is the model's
choice (DESIGN CHOICE, log 26). The entries that stay beside that of a request's origin, most recently used first: the others,
if the origin has an entry or there are fewer than four; else all but the least recently used one that is not the lease
holder's (R160). -/
def Obligations.ReplayAnswersFromCache : Prop :=
  (∀ (holder : Option Addr) (o : Addr) (l : List Origin),
    (∀ before after e, l = before ++ e :: after → e.addr = o → (∀ x ∈ before, x.addr ≠ o) → (∀ x ∈ after, x.addr ≠ o) →
      otherOrigins holder o l = before ++ after) ∧
    ((∀ x ∈ l, x.addr ≠ o) →
      (l.length < 4 → otherOrigins holder o l = l) ∧
      (∀ before after e, l = before ++ e :: after → 4 ≤ l.length → holder ≠ some e.addr →
        (∀ x ∈ after, holder = some x.addr) → otherOrigins holder o l = before ++ after))) ∧
  ∀ (s : State) (c : Instr) (r : Request) (code : BitVec 8) (before after : List Origin) (e : Origin) (cached : List Word),
    ((∃ k, requestOf c = some (r, k) ∧ k.code = code) ∨ c = .unknownRequest r code) → s.reached r →
    s.session.origins = before ++ e :: after → e.addr = r.src →
    (∀ x ∈ before, x.addr ≠ r.src) → (∀ x ∈ after, x.addr ≠ r.src) → e.lastSeq = some r.seq → e.cached = some cached →
    let words := if cached.length + 1 ≤ r.room then
        cached.modify 2 (· ||| 0x8000) ++ List.replicate (r.room - 1 - cached.length) 0x8000
      else [headerWord .response r.src s.strap, r.seq ++ code, 0x8009] ++ List.replicate (r.room - 4) 0x8000
    exec c s = .next
      { s.heard (withCrc words) with
        session := { s.session with origins := e :: (before ++ after) }
        counters := setAt s.counters Counter.replays.index (satAdd (s.counter .replays) 1) }

/-- STATUS reports its twenty items and changes nothing. In states that keep the ring's invariant its FREE, completed and
ACTIVE counts sum to the segment count, and its six watch counts sum to 32 in every state (R53, R181). The words of bodies are
the model's reading (DEDUCED, log 12 to 14). -/
def Obligations.StatusReports : Prop :=
  ∀ (s : State) (r : Request), s.admits r .status →
    let watches (code : Nat) : Nat := (List.finRange 32).countP fun i => watchCode s.watches[i] = code
    let active := (List.finRange 4).countP fun k => (s.contexts[k]).isSome
    let free := (List.finRange 64).countP fun g => decide (g.val < s.ring.segCount) && (s.ring.segs[g]).isNone
    exec (.status r) s = .next (s.observed s r .status (.ok (
      [BitVec.ofNat 16 s.strap.toNat, 2] ++ s.leaseWords ++ itemFullOpt s.receiver.expected ++
      ([s.receiver.history.length, watches 0, watches 1, watches 2, watches 3, watches 4, watches 5, active, free,
        s.ring.completed.length, s.notices.queue.length, (s.notices.queue.filter fun n => n.sent.isSome).length,
        s.events.waiting.length].map (BitVec.ofNat 16)) ++ item48 s.events.timeBase))) ∧
    (s.RingInv → free + s.ring.completed.length + active = s.ring.segCount) ∧
    watches 0 + watches 1 + watches 2 + watches 3 + watches 4 + watches 5 = 32

/-- GET PARAM of an identifier, of none (FFFFh, all seven in order), and of no parameter (RANGE). SET PARAM by identifier and
value: RANGE names the failing item and changes nothing; else the value is written, and the response reports identifier, old
and new value. RING_LOW takes the ring-low test; a new NOTICE_SINK requeues the notices (R178, R179, R180). The words of
bodies are the model's reading (DEDUCED, log 12 to 14); the failing item is a free value, log 10. -/
def Obligations.ParamsReadAndWritten : Prop :=
  ∀ (s : State) (r : Request),
    let full (x : Param) : Bool := x == .leaseTime || x == .eventDelay
    let item (x : Param) (v : Nat) : List Word := if full x then [1, BitVec.ofNat 16 v] else [BitVec.ofNat 16 v]
    let shown (x : Param) : List Word := BitVec.ofNat 16 x.code :: item x (s.params.get x)
    (s.admits r .getParam →
      (∀ x : Param, r.number 0 = x.code → exec (.getParam r) s = .next (s.observed s r .getParam (.ok (shown x)))) ∧
      (r.number 0 = 65535 → exec (.getParam r) s = .next (s.observed s r .getParam (.ok (
        shown .noticeSink ++ shown .noticeResend ++ shown .noticeLimit ++ shown .leaseTime ++ shown .eventDelay ++
        shown .ringLow ++ shown .takeoverOrigin)))) ∧
      (6 < r.number 0 → r.number 0 ≠ 65535 →
        exec (.getParam r) s = .next (s.observed s r .getParam (.other .range [])))) ∧
    (s.permits r .setParam →
      (6 < r.number 0 →
        exec (.setParam r) s = .next (s.controlled s r .setParam (.other .range [Config.failingField 3 1]))) ∧
      (∀ (x : Param) (v : Nat), r.number 0 = x.code → (if full x then r.number 1 = 1 ∧ r.number 2 = v else r.number 1 = v) →
        let reply : Reply := .ok (BitVec.ofNat 16 x.code :: (item x (s.params.get x) ++ item x v))
        let t := { s with params := s.params.set x v }
        (v < x.range.1 ∨ x.range.2 < v →
          exec (.setParam r) s = .next (s.controlled s r .setParam (.other .range [Config.failingField 3 2]))) ∧
        (x.range.1 ≤ v → v ≤ x.range.2 →
          (x = .ringLow → exec (.setParam r) s = .next (s.controlled t.ringLowTest r .setParam reply)) ∧
          (x = .noticeSink → v ≠ s.params.noticeSink → exec (.setParam r) s = .next (s.controlled
            { t with notices := { s.notices with queue := requeue s.notices.queue } } r .setParam reply)) ∧
          (x ≠ .ringLow → (x = .noticeSink → v = s.params.noticeSink) →
            exec (.setParam r) s = .next (s.controlled t r .setParam reply)))))

/-- A change of sink: every entry is QUEUED; one entry is left of each kind and subject, at the oldest one's place; its repeat
count is their sum, stopping at 255 (R136). -/
def Obligations.SinkChangeMerges : Prop :=
  ∀ q : List Notice,
    let key (n : Notice) : NoticeKind × Nat × SubjectClass := (n.kind, n.subject, n.cls)
    (∀ n ∈ requeue q, n.sent = none) ∧ (requeue q).map key = (q.map key).reverse.dedup.reverse ∧
    ((∀ n ∈ q, n.repeats ≤ 255) → ∀ n ∈ requeue q,
      n.repeats = min 255 ((q.filter fun m => key m = key n).map Notice.repeats).sum)

/-- The twelve counters stand in the order of R182, and each increase stops at 4294967295. READ COUNTERS reports them in that
order. With the clear option no, which every origin may ask, nothing changes; with yes they are all 0 afterwards, and the flag
CLEARED says so; another option is RANGE (R182, R183). The words of bodies are the model's reading (DEDUCED, log 12 to 14), as
is the class by the option (DEDUCED, log 18). -/
def Obligations.CountersReadAndCleared : Prop :=
  [Counter.damagedFrames, .linkDowns, .missedSweeps, .resyncs, .fires, .firesRefused, .capturesDone, .capturesLost,
    .noticesDropped, .noticesExpired, .eventsDropped, .replays].map Counter.index = List.finRange 12 ∧
  (∀ (c : BitVec 32) (d : Nat), (satAdd c d).toNat = min (c.toNat + d) 4294967295) ∧
  ∀ (s : State) (r : Request),
    let values := (List.finRange 12).flatMap fun n =>
      [(s.counters[n]).extractLsb' 0 16, (s.counters[n]).extractLsb' 16 16]
    (s.admits r .readCounters → r.number 0 % 256 = 0 →
      exec (.readCounters r) s = .next (s.observed s r .readCounters (.ok (values ++ [0])))) ∧
    (s.permits r .readCounters →
      (r.number 0 % 256 = 1 → exec (.readCountersClear r) s = .next (s.controlled
        { s with counters := Vector.replicate 12 0 } r .readCounters (.ok (values ++ [1])))) ∧
      (1 < r.number 0 % 256 →
        exec (.readCountersClear r) s = .next (s.controlled s r .readCounters (.other .range []))))

/-- CLEAR takes its scopes in the order TABLES, CAPTURES, NOTICES. TABLES and CAPTURES end a capture in flight with ABORTED,
here at most one. TABLES empties the watches, the profiles, the history with its set, and the event table; CAPTURES frees every
segment, that of the ended capture too, empties the completed list, sets the cursor to 0 and takes the ring-low test; NOTICES
empties the queue. An empty scope set changes nothing (R34, R52, R82, R97, R122, R139, R155, R184). The words of bodies are the
model's reading (DEDUCED, log 12 to 14); that each of the three rows may carry any scopes is its choice (DESIGN CHOICE, log
19). -/
def Obligations.ClearTakesScopes : Prop :=
  ∀ (s e : State) (r : Request) (c : Instr) (ended : Word),
    c ∈ [Instr.clearTables r, .clearCaptures r, .clearNotices r] → s.permits r .clear →
    let scope (n : Nat) : Bool := (r.number 0).testBit n
    ((((∀ k : Fin 4, s.contexts[k] = none) ∨ (scope 0 = false ∧ scope 1 = false)) ∧ e = s ∧ ended = 0) ∨
      ((scope 0 = true ∨ scope 1 = true) ∧ ∃ (k : Fin 4) (x : Context), s.contexts[k] = some x ∧
        (∀ l : Fin 4, l ≠ k → s.contexts[l] = none) ∧ e = s.endCapture k .aborted ∧ ended = 1)) →
    let entry : EventEntry :=
      { enable := false, arm := 0, disarm := 0, zeroTime := false, pulse := { l0 := false, l1 := false } }
    let a := if scope 0 then { e with
        watches := Vector.replicate 32 none, profiles := Vector.replicate 8 none
        events := { e.events with table := Vector.replicate 16 entry }
        receiver := { e.receiver with historySet := [], history := [] } } else e
    let b := if scope 1 then
        { a with ring := { e.ring with segs := Vector.replicate 64 none, completed := [], cursor := 0 } }.ringLowTest else a
    let d := if scope 2 then { b with notices := { b.notices with queue := [] } } else b
    exec c s = .next (s.controlled d r .clear (.ok [BitVec.ofNat 16 (r.number 0 % 8), ended,
      if scope 1 then BitVec.ofNat 16
        ((List.finRange 64).countP fun g => decide (g.val < s.ring.segCount) && (s.ring.segs[g]).isSome) else 0,
      if scope 2 then BitVec.ofNat 16 b.notices.queue.length else 0]))

/-! ### Requests of the segment ring -/

/-- FORMAT RING: RANGE names the first failing item and BUSY counts FILLING, FULL and READING where a segment is not FREE, and
both change nothing; else the format is set, the cursor is 0 and the ring-low test is taken. With FORCE it is accepted
whatever the segments hold: captures end without a record, the watches they refer to take their end step, and every segment is
FREE (R98, R102, R103). The words of bodies are the model's reading (DEDUCED, log 12 to 14); the failing item is a free value,
log 10. -/
def Obligations.FormatRingSets : Prop :=
  ∀ (s : State) (r : Request) (n size : Nat), s.permits r .formatRing → r.number 0 = n →
    r.number 1 + 65536 * r.number 2 = size →
    let good := 2 ≤ n ∧ n ≤ 64 ∧ 64 ≤ size ∧ size ≤ 131072 ∧ n * size ≤ 262144
    let format (t : State) : State := { t with ring := { t.ring with
      segCount := n, segSize := size, segs := Vector.replicate 64 none, completed := [], cursor := 0 } }.ringLowTest
    let count (p : SegmentState → Bool) : Word := BitVec.ofNat 16 ((List.finRange 64).countP fun g =>
      decide (g.val < s.ring.segCount) && (s.ring.segs[g]).any fun x => p x.state)
    let shown : List Word := [BitVec.ofNat 16 n] ++ itemNat32 size
    (∀ c ∈ [Instr.formatRing r, .formatRingForce r],
      ((n < 2 ∨ 64 < n) →
        exec c s = .next (s.controlled s r .formatRing (.other .range [Config.failingField 20 1]))) ∧
      (2 ≤ n → n ≤ 64 → (size < 64 ∨ 131072 < size) →
        exec c s = .next (s.controlled s r .formatRing (.other .range [Config.failingField 20 2]))) ∧
      (2 ≤ n → n ≤ 64 → 64 ≤ size → size ≤ 131072 → 262144 < n * size →
        exec c s = .next (s.controlled s r .formatRing (.other .range [Config.failingField 20 3])))) ∧
    (good → (r.number 3).testBit 0 = false →
      ((∀ g : Fin 64, g.val < s.ring.segCount → s.ring.segs[g] = none) →
        exec (.formatRing r) s = .next (s.controlled (format s) r .formatRing (.ok shown))) ∧
      ((∃ g : Fin 64, g.val < s.ring.segCount ∧ s.ring.segs[g] ≠ none) →
        exec (.formatRing r) s = .next (s.controlled s r .formatRing (.other .busy
          [count fun x => x.isFilling, count fun x => x = .full, count fun x => x = .reading])))) ∧
    (∀ refers : Fin 32 → Bool, good → (r.number 3).testBit 0 = true →
      (∀ i, refers i = true ↔ ∃ (k : Fin 4) (c : Context), s.contexts[k] = some c ∧ c.watchRef = some i) →
      (∀ (k l : Fin 4) (c d : Context) (i : Fin 32), s.contexts[k] = some c → s.contexts[l] = some d →
        c.watchRef = some i → d.watchRef = some i → k = l) →
      exec (.formatRingForce r) s = .next (s.controlled
        (format { s with
          contexts := Vector.replicate 4 none
          watches := mapTable (fun i o => if refers i then o.map Watch.endStep else o) s.watches })
        r .formatRing (.ok (shown ++
          [BitVec.ofNat 16 ((List.finRange 4).countP fun k => (s.contexts[k]).isSome),
           count fun x => !x.isFilling]))))

/-- READ SEGMENT. RANGE for a bad segment, offset or count; EMPTY for a FREE segment; RANGE with the fill for an offset at or
beyond it. Else it serves the smallest of the count asked, the words that fit the room and the words left below the fill: FULL
becomes READING, the high-water is raised, and a READING segment read to its fill with auto-release is FREE at once, off the
completed list, with the ring-low test. SHORT says that fewer were served than asked (R106, R113, R114, R115, R189). The words
of bodies are the model's reading (DEDUCED, log 12 to 14). -/
def Obligations.ReadSegmentServes : Prop :=
  ∀ (s : State) (r : Request) (offset count : Nat), s.permits r .readSegment → r.number 1 + 65536 * r.number 2 = offset →
    r.number 3 = count → s.ring.segCount ≤ 64 →
    ((s.ring.segCount ≤ r.number 0 ∨ 131071 < offset ∨ count = 0 ∨ 120 < count) →
      exec (.readSegment r) s = .next (s.controlled s r .readSegment (.other .range []))) ∧
    (∀ g : Fin 64, r.number 0 = g.val → g.val < s.ring.segCount → offset ≤ 131071 → 1 ≤ count → count ≤ 120 →
      (s.ring.segs[g] = none → exec (.readSegment r) s = .next (s.controlled s r .readSegment (.other .empty [0]))) ∧
      (∀ x, s.ring.segs[g] = some x →
        (x.fill ≤ offset →
          exec (.readSegment r) s = .next (s.controlled s r .readSegment (.other .range (itemNat32 x.fill)))) ∧
        (offset < x.fill →
          let served := min count (min ((r.room - 12) / 2) (x.fill - offset))
          let state := if x.state = .full then .reading else x.state
          let released := decide (state = .reading) && decide (offset + served = x.fill) && x.autoRelease
          let after := if released then
              { s with ring := { s.ring with
                segs := setAt s.ring.segs g none, completed := s.ring.completed.filter (· ≠ g) } }.ringLowTest
            else { s with ring := { s.ring with
              segs := setAt s.ring.segs g (some { x with state := state, highWater := max x.highWater (offset + served) }) } }
          let code : Word := if released then 0x8000 else if state = .reading then 0x300 else 0x100
          exec (.readSegment r) s = .next (s.controlled after r .readSegment
            { status := .ok, short := decide (served < count)
              body := [BitVec.ofNat 16 g.val ||| code] ++ itemNat32 offset ++ [BitVec.ofNat 16 served] ++
                item32 x.sequence ++ itemNat32 x.fill ++
                (List.range served).flatMap fun n =>
                  item32 (s.ring.mem.read (g.val * s.ring.segSize + offset + n)) }))))

/-- RELEASE SEGMENT: RANGE at or beyond the segment count, EMPTY for a FREE and BUSY for a FILLING segment, and for a FULL or
READING one FREE, off the completed list, with the ring-low test (R117). The words of bodies are the model's reading (DEDUCED,
log 12 to 14). -/
def Obligations.ReleaseSegmentFrees : Prop :=
  ∀ (s : State) (r : Request), s.permits r .releaseSegment → s.ring.segCount ≤ 64 →
    (s.ring.segCount ≤ r.number 0 →
      exec (.releaseSegment r) s = .next (s.controlled s r .releaseSegment (.other .range []))) ∧
    ∀ g : Fin 64, r.number 0 = g.val → g.val < s.ring.segCount →
      (s.ring.segs[g] = none →
        exec (.releaseSegment r) s = .next (s.controlled s r .releaseSegment (.other .empty [BitVec.ofNat 16 g.val, 0]))) ∧
      (∀ x, s.ring.segs[g] = some x →
        (x.state.isFilling = true →
          exec (.releaseSegment r) s = .next
            (s.controlled s r .releaseSegment (.other .busy [BitVec.ofNat 16 g.val, 1]))) ∧
        (x.state.isFilling = false →
          exec (.releaseSegment r) s = .next (s.controlled
            { s with ring := { s.ring with
              segs := setAt s.ring.segs g none, completed := s.ring.completed.filter (· ≠ g) } }.ringLowTest
            r .releaseSegment
            (.ok ([BitVec.ofNat 16 g.val, 0] ++ item32 x.sequence ++ [BitVec.ofNat 16 x.endReason.code.toNat])))))

/-- An opening's segment: the first FREE one in ring order from the cursor, with the ring-low test; else, under OVERWRITE, the
first FULL entry of the completed list, which is off the list, counted in CAPTURES_LOST and named by CAPTURE_LOST; else none.
A granted segment is FILLING with fill 12 and high-water 0, and the cursor is the place after it (R106, R108, R109, R110). The
ring-low test: at or below RING_LOW a clear latch posts RING_LOW with the FREE count and is set; above it the latch is
cleared; else nothing changes (R111). -/
def Obligations.RingAllocatesAndTests : Prop :=
  (∀ (s : State) (k : Fin 4) (sequence : BitVec 32) (p : Profile), s.ring.segCount ≤ 64 →
    let granted (t : State) (g : Fin 64) : State := { t with ring := { t.ring with
      cursor := (g.val + 1) % s.ring.segCount
      segs := setAt t.ring.segs g (some
        { state := .filling k, sequence := sequence, fill := 12, highWater := 0, autoRelease := p.autoRelease,
          endReason := .inProgress }) } }
    let taken (f : Fin 64) : Prop := (s.ring.segs[f]).isSome = true
    let notFull (f : Fin 64) : Prop := ∀ x, s.ring.segs[f] = some x → x.state ≠ .full
    (∀ (x : Nat) (g : Fin 64), x < s.ring.segCount → g.val = (s.ring.cursor + x) % s.ring.segCount →
      s.ring.segs[g] = none →
      (∀ (y : Nat) (f : Fin 64), y < x → f.val = (s.ring.cursor + y) % s.ring.segCount → taken f) →
      s.allocate k sequence p = some (g, (granted s g).ringLowTest)) ∧
    ((∀ g : Fin 64, g.val < s.ring.segCount → taken g) →
      (∀ (before after : List (Fin 64)) (g : Fin 64) (x : Segment), p.policy = .overwrite →
        s.ring.completed = before ++ g :: after → s.ring.segs[g] = some x → x.state = .full →
        (∀ f ∈ before, notFull f) →
        s.allocate k sequence p = some (g, granted
          ({ s with
            ring := { s.ring with completed := s.ring.completed.filter (· ≠ g) }
            counters := setAt s.counters Counter.capturesLost.index (satAdd (s.counter .capturesLost) 1) }.post
            .captureLost g.val .segment) g)) ∧
      ((p.policy = .refuse ∨ ∀ g ∈ s.ring.completed, notFull g) → s.allocate k sequence p = none))) ∧
  ∀ (s : State) (free : Nat),
    free = ((List.finRange 64).countP fun g => decide (g.val < s.ring.segCount) && (s.ring.segs[g]).isNone) →
    (free ≤ s.params.ringLow → s.ring.low = true → s.ringLowTest = s) ∧
    (free ≤ s.params.ringLow → s.ring.low = false →
      s.ringLowTest = { s with ring := { s.ring with low := true } }.post .ringLow free .count) ∧
    (s.params.ringLow < free → s.ringLowTest = { s with ring := { s.ring with low := false } })

/-- SEGMENT INFO and SCAN change nothing. An index at or beyond the segment count is RANGE, and a FREE segment is EMPTY. The
header they report is read from capture memory: where the segment's first twelve words are the header of a capture, it comes
back field by field. SCAN reports the head where no index is given or the one given is not in the completed list, the entry
after the one given where it is, and NONE where there is none (R118, R119, R191). The words of bodies are the model's reading
(DEDUCED, log 12 to 14). -/
def Obligations.SegmentInfoAndScanReport : Prop :=
  (∀ (s : State) (r : Request), s.ring.segCount ≤ 64 →
    (s.admits r .segmentInfo →
      (s.ring.segCount ≤ r.number 0 →
        exec (.segmentInfo r) s = .next (s.observed s r .segmentInfo (.other .range []))) ∧
      (∀ g : Fin 64, r.number 0 = g.val → g.val < s.ring.segCount → s.ring.segs[g] = none →
        exec (.segmentInfo r) s = .next (s.observed s r .segmentInfo (.other .empty [0])))) ∧
    (s.admits r .scan →
      (s.ring.segCount ≤ r.number 0 → r.number 0 ≠ 65535 →
        exec (.scan r) s = .next (s.observed s r .scan (.other .range []))) ∧
      (s.ring.completed = [] → (r.number 0 = 65535 ∨ r.number 0 < s.ring.segCount) →
        exec (.scan r) s = .next (s.observed s r .scan (.other .none [0]))))) ∧
  ∀ (s : State) (r : Request) (g : Fin 64) (x : Segment) (c : Context) (reason : EndReason) (time : BitVec 48),
    s.ring.segCount ≤ 64 → g.val < s.ring.segCount → s.ring.segs[g] = some x →
    (∀ n < 12, s.ring.mem.read (g.val * s.ring.segSize + n) = (c.header reason time).getD n 0) →
    1 ≤ c.snapshot.slots.length → c.snapshot.slots.length ≤ 16 → c.snapshot.decimation ≤ 256 → c.pre ≤ 1024 →
    c.post ≤ 65535 →
    let place (l : List Word) (h : List Word) : List Word := l ++ item32 x.sequence ++ itemNat32 x.fill ++
      itemNat32 x.highWater ++ [if x.autoRelease then 1 else 0, BitVec.ofNat 16 x.endReason.code.toNat] ++ h
    (s.admits r .segmentInfo → r.number 0 = g.val → ∀ position : Word,
      ((g ∉ s.ring.completed ∧ position = 0xFFFF) ∨
        ∃ before after, s.ring.completed = before ++ g :: after ∧ g ∉ before ∧
          position = BitVec.ofNat 16 (before.length + 1)) →
      exec (.segmentInfo r) s = .next (s.observed s r .segmentInfo (.ok (
        place [BitVec.ofNat 16 (segmentCode (some x)),
            match x.state with | .filling k => BitVec.ofNat 16 k.val | .full => 0xFFFF | .reading => 0xFFFF]
          ([position, BitVec.ofNat 16 s.ring.completed.length] ++
            [BitVec.ofNat 16 c.profileIndex.val, BitVec.ofNat 16 c.openingWatch.val, BitVec.ofNat 16 reason.code.toNat,
              BitVec.ofNat 16 c.snapshot.slots.length] ++ item32 c.sequence ++ itemFullOpt c.trigger ++
            [BitVec.ofNat 16 c.snapshot.decimation, BitVec.ofNat 16 c.pre, 1, BitVec.ofNat 16 c.post] ++
            itemNat32 c.gap ++ item48 time ++ itemNat32 c.used ++ [BitVec.ofNat 16 c.snapshot.slots.length] ++
            packSlots c.snapshot.slots))))) ∧
    (s.admits r .scan → x.state.isFilling = false →
      (∀ (before after : List (Fin 64)), s.ring.completed = before ++ g :: after → g ∉ before →
        ((before = [] ∧ (r.number 0 = 65535 ∨ ∃ f : Fin 64, r.number 0 = f.val ∧ f.val < s.ring.segCount ∧
            f ∉ s.ring.completed)) ∨
          (∃ (l : List (Fin 64)) (f : Fin 64), before = l ++ [f] ∧ f ∉ l ∧ r.number 0 = f.val ∧
            f.val < s.ring.segCount)) →
        exec (.scan r) s = .next (s.observed s r .scan (.ok (
          place [BitVec.ofNat 16 g.val, BitVec.ofNat 16 (before.length + 1), BitVec.ofNat 16 s.ring.completed.length,
              BitVec.ofNat 16 (segmentCode (some x))]
            ([BitVec.ofNat 16 c.profileIndex.val, BitVec.ofNat 16 c.openingWatch.val] ++ itemFullOpt c.trigger))))) ∧
      (∀ before : List (Fin 64), s.ring.completed = before ++ [g] → g ∉ before → r.number 0 = g.val →
        exec (.scan r) s = .next (s.observed s r .scan (.other .none [BitVec.ofNat 16 s.ring.completed.length]))))

/-! ### Requests of the event unit and of the session -/

/-- SET EVENT ENTRY replaces the entry whole, or names the first failing field with RANGE and changes nothing; GET EVENT ENTRY
reports the entry and how many waiting events bear its code; SET TIME loads the time base and reports the old value and the
new (R145, R146, R150). The words of bodies are the model's reading (DEDUCED, log 12 to 14); the failing field is a free
value, and that arm stands before disarm and enable before zero-time is the model's choice (DESIGN CHOICE, log 10). -/
def Obligations.EventRequests : Prop :=
  ∀ (s : State) (r : Request),
    let shown (k : Nat) (e : EventEntry) : List Word :=
      [BitVec.ofNat 16 k, if e.enable then 1 else 0, e.arm.setWidth 16, e.disarm.setWidth 16, if e.zeroTime then 1 else 0,
       (if e.pulse.l0 then 1 else 0) + (if e.pulse.l1 then 2 else 0)]
    (s.permits r .setEventEntry →
      let yes (n : Nat) : Bool := r.number n % 256 == 1
      let e : EventEntry := { enable := yes 1, arm := BitVec.ofNat 4 (r.number 2), disarm := BitVec.ofNat 4 (r.number 3),
                              zeroTime := yes 4, pulse := { l0 := (r.number 5).testBit 0, l1 := (r.number 5).testBit 1 } }
      let checks : List (Nat × Prop) := [(10, 15 < r.number 0), (20, 15 < r.number 2), (21, 15 < r.number 3),
        (30, 1 < r.number 1 % 256), (31, 1 < r.number 4 % 256), (40, 3 < r.number 5)]
      (∀ k : Fin 16, r.number 0 = k.val → (∀ x ∈ checks, ¬x.2) →
        exec (.setEventEntry r) s = .next (s.controlled
          { s with events := { s.events with table := setAt s.events.table k e } } r .setEventEntry
          (.ok (shown k.val e)))) ∧
      (∀ (before after : List (Nat × Prop)) (x : Nat × Prop), checks = before ++ x :: after → (∀ y ∈ before, ¬y.2) →
        x.2 → exec (.setEventEntry r) s = .next
          (s.controlled s r .setEventEntry (.other .range [Config.failingField 26 x.1])))) ∧
    (s.admits r .getEventEntry →
      (15 < r.number 0 → exec (.getEventEntry r) s = .next (s.observed s r .getEventEntry (.other .range []))) ∧
      (∀ k : Fin 16, r.number 0 = k.val →
        exec (.getEventEntry r) s = .next (s.observed s r .getEventEntry (.ok (shown k.val s.events.table[k] ++
          [BitVec.ofNat 16 (s.events.waiting.filter fun w => w.code = k).length]))))) ∧
    (s.permits r .setTime →
      let v : BitVec 48 := BitVec.ofNat 48 (r.number 0 + 65536 * r.number 1 + 4294967296 * r.number 2)
      exec (.setTime r) s = .next (s.controlled { s with events := { s.events with timeBase := v } } r .setTime
        (.ok (item48 s.events.timeBase ++ item48 v))))

/-- CLAIM with no holder makes the origin the holder, from the holder reloads the timer, and from another origin is HELD.
TAKEOVER from TAKEOVER_ORIGIN gives the lease to it; a former holder is another's, LEASE_LOST is posted for it and READING
segments return to FULL (R116, R165, R167, R170). That a TAKEOVER of the present holder reports it as its own former holder is
the model's choice (DESIGN CHOICE, log 25). The words of bodies are the model's reading (DEDUCED, log 12 to 14). -/
def Obligations.LeaseIsGiven : Prop :=
  ∀ (s : State) (r : Request) (c : Instr) (k : RequestKind),
    ((c = .claim r ∧ k = .claim) ∨ (c = .takeover r ∧ k = .takeover ∧ r.src.toNat = s.params.takeoverOrigin)) →
    s.admits r k →
    let ticks := s.params.leaseTime * 100000
    let returned : Ring := { s.ring with segs := mapTable (fun _ o => o.map fun x =>
      { x with state := if x.state = .reading then .full else x.state }) s.ring.segs }
    let given : State :=
      { s with session := { s.session with holder := some r.src, leaseTimer := some ticks }, ring := returned }
    let mine : List Word := [BitVec.ofNat 16 r.src.toNat, BitVec.ofNat 16 ((ticks + 99999) / 100000)]
    let former (l : List Word) : List Word := if k = .takeover then l else []
    (s.session.holder = none → exec c s = .next (s.observed given r k (.ok (mine ++ former [0xFFFF])))) ∧
    (s.session.holder = some r.src → exec c s = .next (s.observed
      { s with session := { s.session with leaseTimer := some ticks } } r k
      (.ok (mine ++ former [BitVec.ofNat 16 r.src.toNat])))) ∧
    (∀ h : Addr, s.session.holder = some h → h ≠ r.src →
      (k = .claim → exec c s = .next (s.observed s r k (.other .held s.leaseWords))) ∧
      (k = .takeover → exec c s = .next (s.observed (given.post .leaseLost h.toNat .address) r k
        (.ok (mine ++ [BitVec.ofNat 16 h.toNat])))))

/-- RENEW restarts the lease timer with LEASE_TIME and does nothing else; from an origin that is not the holder it is DENIED
(R166, R168). The words of bodies are the model's reading (DEDUCED, log 12 to 14). -/
def Obligations.RenewRestarts : Prop :=
  ∀ (s : State) (r : Request), s.admits r .renew →
    (s.session.holder = some r.src →
      exec (.renew r) s = .next (s.controlled s r .renew
        (.ok [BitVec.ofNat 16 r.src.toNat, BitVec.ofNat 16 s.params.leaseTime]))) ∧
    (s.session.holder ≠ some r.src → exec (.renew r) s = .next (s.observed s r .renew (.other .denied s.leaseWords)))

/-- YIELD clears the holder, stops the timer and returns READING segments to FULL, with no notice; from an origin that is not
the holder it is DENIED (R116, R169). The run-out of the lease timer does the same and posts LEASE_LOST for the former holder
(R171). The words of bodies are the model's reading (DEDUCED, log 12 to 14); a run-out acts whenever the timer runs (DESIGN
CHOICE, log 5). -/
def Obligations.LeaseIsGivenUp : Prop :=
  ∀ (s : State) (r : Request) (h : Addr),
    let cleared : State := { s with
      session := { s.session with holder := none, leaseTimer := none }
      ring := { s.ring with segs := mapTable (fun _ o => o.map fun x =>
        { x with state := if x.state = .reading then .full else x.state }) s.ring.segs } }
    (s.admits r .yield →
      (s.session.holder = some r.src → exec (.yield r) s = .next (s.observed cleared r .yield (.ok [0xFFFF]))) ∧
      (s.session.holder ≠ some r.src → exec (.yield r) s = .next (s.observed s r .yield (.other .denied s.leaseWords)))) ∧
    (s.resetLow = false → s.session.holder = some h →
      exec .leaseExpiry s = .next (cleared.post .leaseLost h.toNat .address))

/-! ### Invariants and whole-machine rules -/

/-- The notice queue holds at most 32 entries and at most 8 SENT, no two QUEUED ones of one kind and subject (R127), and the
numbers of SENT entries are distinct (R131), after every step from a state where this is so. -/
def Obligations.NoticeQueueStaysWithin : Prop :=
  ∀ s t : State, s.NoticeInv ∧ s.QueuedDistinct ∧ s.NumbersDistinct → step s = .next t →
    t.NoticeInv ∧ t.QueuedDistinct ∧ t.NumbersDistinct

/-- At most four origins, all different, with RESPONSES cached, a lease timer exactly while there is a holder, who is in the
table (R160, R163, R165), and a READING segment only while some origin holds the lease (R116), after every step from a state
where this is so. -/
def Obligations.SessionStaysWhole : Prop :=
  ∀ s t : State, s.SessionInv ∧ s.ReadingInv → step s = .next t → t.SessionInv ∧ t.ReadingInv

/-- Every ACTIVE context owns one FILLING segment and no segment is owned by two (R108), the completed list holds the FULL and
READING segments, each once (R107), and the format keeps its ranges (R101), after every step from a state where this is so. -/
def Obligations.RingStaysWhole : Prop :=
  ∀ s t : State, s.RingInv ∧ s.FormatInv → step s = .next t → t.RingInv ∧ t.FormatInv

/-- A watch is FIRED exactly when one ACTIVE context refers to it (R37), and a watch that is ARMED, FIRED or in HOLDOFF finds
its action profile loaded (R80), after every step from a state where this is so. -/
def Obligations.FiredWatchesStayReferred : Prop :=
  ∀ s t : State, s.ReferenceInv ∧ s.LoadedInv → step s = .next t → t.ReferenceInv ∧ t.LoadedInv

/-- Every segment's fill is 12 to S and what its context has used, and bounds the high-water (R104, R105, R106), after every
step from a state where this, the ring's and the profiles' invariants are so. -/
def Obligations.FillStaysWithin : Prop :=
  ∀ s t : State, s.FillInv ∧ s.RingInv ∧ s.FormatInv ∧ s.ProfileInv → step s = .next t → t.FillInv

/-- The port's counts and silence timer (R4), the history's bound, set and widths (R27, R28), the profiles' ranges with the
history set that their pre rows need (R77, R79), the parameters' ranges (R178), and the canonical form of capture memory (log
3) are kept by every step. -/
def Obligations.StoresStayWithin : Prop :=
  ∀ s t : State, s.PortInv ∧ s.ReceiverInv ∧ s.ProfileInv ∧ s.ParamInv ∧ Memory.wf s.ring.mem → step s = .next t →
    t.PortInv ∧ t.ReceiverInv ∧ t.ProfileInv ∧ t.ParamInv ∧ Memory.wf t.ring.mem

/-- The state after reset meets every invariant. That its straps read 0 is the model's choice (log 1); no clause rests on it.
-/
def Obligations.ResetMeetsInvariants : Prop :=
  let s := State.reset
  s.PortInv ∧ s.ReceiverInv ∧ s.NoticeInv ∧ s.QueuedDistinct ∧ s.NumbersDistinct ∧ s.SessionInv ∧ s.ReadingInv ∧
    s.ProfileInv ∧ s.ReferenceInv ∧ s.LoadedInv ∧ s.RingInv ∧ s.FormatInv ∧ s.ParamInv ∧ s.FillInv ∧
    Memory.wf s.ring.mem ∧ s.pending = []

/-- Frames are conserved: in HUNT and UP each frame that arrives puts exactly one frame on the output, after those before it,
and of its own length but for a NOTICE of 16 words in the place of an IDLE and the bounds of a damaged IDLE; no other command
but a SEND_BREAK in DOWN puts a frame there (R15, R16, R19). The premises are the invariants of the history, the profiles and
the session that StoresStayWithin and SessionStaysWhole keep. What leaves is recorded at the arrival (DESIGN CHOICE, log 9).
-/
def Obligations.FramesAreConserved : Prop :=
  ∀ (s t : State) (c : Instr), s.resetLow = false → exec c s = .next t →
    (∀ ws, frameOf c = some ws → s.port.link ≠ .down → s.ReceiverInv → s.ProfileInv → s.SessionInv →
      ∃ out, t.port.out = s.port.out ++ [.frame out] ∧ frameValid out = true ∧
        (frameValid ws = true → out.length = ws.length ∨ (kindOf ws = some .idle ∧ kindOf out = some .notice)) ∧
        (frameValid ws = false → out.length = max 3 (min ws.length 264) ∧ kindOf out = some .idle)) ∧
    (frameOf c = none → c ≠ .sendBreak → (∀ straps copied, c ≠ .powerOnResetRelease straps copied) →
      (∀ sent, c ≠ .resetnFall sent) → t.port.out = s.port.out) ∧
    (c = .sendBreak → s.port.link ≠ .down → t.port.out = s.port.out)

/-- What GET WATCH, GET PROFILE and GET EVENT ENTRY write, LOAD WATCH, LOAD PROFILE and SET EVENT ENTRY read: contents within
the ranges of R35, R77 and R144, written as items after their index, are read back (R40, R43, R78, R81, R145, R146, R190). A
body of LOAD WATCH or LOAD PROFILE is refused at the first check of R40 or R78 that it breaks, and a body that is too short at
some check. The words of bodies and their order are the model's reading (DEDUCED, log 12 to 14), the numbers of the
checks and the order of the fields within one its own (DESIGN CHOICE, log 10). -/
def Obligations.ContentsReadBack : Prop :=
  (∀ (i : Fin 32) (c : Contents) (rest : List Word),
     (match c.condition with
       | .above _ hi => hi ≠ 0x8000
       | .below _ lo => lo ≠ 0x8000
       | .inside _ lo hi => lo ≠ 0x8000 ∧ hi ≠ 0x8000 ∧ lo.toInt ≤ hi.toInt
       | .outside _ lo hi => lo ≠ 0x8000 ∧ hi ≠ 0x8000 ∧ lo.toInt ≤ hi.toInt
       | .rise _ lo hi => lo ≠ 0x8000 ∧ hi ≠ 0x8000 ∧ lo.toInt < hi.toInt
       | .fall _ lo hi => lo ≠ 0x8000 ∧ hi ≠ 0x8000 ∧ lo.toInt < hi.toInt
       | .step _ n => 1 ≤ n ∧ n ≤ 65535
       | .mark m => m ≠ 0
       | .event _ => True
       | .line _ _ => True) →
     (match c.condition with
       | .above _ _ | .below _ _ | .inside _ _ _ | .outside _ _ _ | .mark _ => 1 ≤ c.qualifier ∧ c.qualifier ≤ 255
       | .rise _ _ _ | .fall _ _ _ | .step _ _ | .event _ | .line _ _ => c.qualifier = 1) →
     (∀ p, c.precondition = some p → p.watch < i ∧ 1 ≤ p.window ∧ p.window ≤ 65535) →
     (∀ n, c.budget = some n → 1 ≤ n ∧ n ≤ 255) → c.holdoff ≤ 65535 →
     readLoadWatch ([BitVec.ofNat 16 i.val] ++ c.items ++ rest) = .ok (i, c)) ∧
  (∀ rest : List Word,
     (∀ (i : Fin 8) (p : Profile), 1 ≤ p.slots.length → p.slots.length ≤ 16 → p.slots.Nodup → p.pre ≤ 1024 → 1 ≤ p.post →
       p.post ≤ 65535 → 1 ≤ p.decimation → p.decimation ≤ 256 → p.pre * p.decimation ≤ 1024 →
       readLoadProfile ([BitVec.ofNat 16 i.val] ++ p.items ++ rest) = .ok (i, p)) ∧
     (∀ (k : Fin 16) (e : EventEntry), readEventEntry ([BitVec.ofNat 16 k.val] ++ e.items ++ rest) = .ok (k, e))) ∧
  (∀ b : List Word,
    let word (n : Nat) : Word := b.getD n 0
    let number (n : Nat) : Nat := (word n).toNat
    let code (n : Nat) : Nat := number n % 256
    let level := code 1 = 0
    let edge := code 1 = 1 ∨ code 1 = 2
    let usesLo := (level ∧ code 2 ≠ 0) ∨ edge
    let usesHi := (level ∧ code 2 ≠ 1) ∨ edge
    let checks : List (Nat × Prop) :=
      [(10, 31 < number 0), (20, 6 < code 1), (30, level ∧ 3 < code 2), (40, (level ∨ edge ∨ code 1 = 3) ∧ 255 < number 3),
       (50, usesLo ∧ word 4 = 0x8000), (51, usesHi ∧ word 5 = 0x8000),
       (60, (level ∧ 2 ≤ code 2 ∧ (word 5).toInt < (word 4).toInt) ∨ (edge ∧ (word 5).toInt ≤ (word 4).toInt)),
       (70, code 1 = 3 ∧ (number 6 ≠ 1 ∨ number 7 = 0)), (80, code 1 = 4 ∧ word 8 = 0), (90, code 1 = 5 ∧ 15 < number 9),
       (91, code 1 = 6 ∧ 1 < code 10), (92, code 1 = 6 ∧ 1 < code 11),
       (100, (level ∨ code 1 = 4) ∧ (number 12 = 0 ∨ 255 < number 12)),
       (110, number 13 ≠ 65535 ∧ (31 < number 13 ∨ number 0 ≤ number 13)),
       (111, if number 13 = 65535 then 1 < number 14 else number 14 ≠ 1 ∨ number 15 = 0), (120, 3 < number 16),
       (130, number 17 ≠ 65535 ∧ (number 17 = 0 ∨ 255 < number 17)), (140, number 20 ≠ 65535 ∧ 7 < number 20),
       (141, number 21 ≠ 65535 ∧ 15 < number 21), (142, 3 < number 22), (150, number 18 ≠ 1), (160, 1 < code 23)]
    (24 ≤ b.length → ∀ (before after : List (Nat × Prop)) (x : Nat × Prop), checks = before ++ x :: after →
      (∀ y ∈ before, ¬y.2) → x.2 → readLoadWatch b = .error x.1) ∧
    (b.length < 24 → ∃ n, readLoadWatch b = .error n)) ∧
  (∀ b : List Word,
    let number (n : Nat) : Nat := (b.getD n 0).toNat
    let count := number 1
    let place := 2 + (count + 1) / 2
    let slots := (((b.drop 2).take ((count + 1) / 2)).flatMap fun w => [w.extractLsb' 0 8, w.extractLsb' 8 8]).take count
    let checks : List (Nat × Prop) :=
      [(10, 7 < number 0), (20, count = 0 ∨ 16 < count), (30, ¬slots.Nodup), (40, 1024 < number place),
       (50, number (place + 1) ≠ 1 ∨ number (place + 2) = 0), (60, number (place + 3) = 0 ∨ 256 < number (place + 3)),
       (70, 1024 < number place * number (place + 3)), (80, 1 < number (place + 4) % 256),
       (81, 1 < number (place + 5) % 256), (82, 1 < number (place + 6) % 256)]
    (place + 7 ≤ b.length → ∀ (before after : List (Nat × Prop)) (x : Nat × Prop), checks = before ++ x :: after →
      (∀ y ∈ before, ¬y.2) → x.2 → readLoadProfile b = .error x.1) ∧
    (b.length < place + 7 → ∃ n, readLoadProfile b = .error n))
end

