-- ==== Sys2Proof/Laws/Frame.lean ====
section
/-! SUPPORT. Frames: the CRC of a made frame matches, the fields of a header word read back, and the frames that commands
and the node itself make are judged valid. -/

namespace Sys2Proof.Machine

/-- The last word of a made frame is its CRC (R187). -/
@[simp] theorem crcMatches_withCrc (ws : List Word) : crcMatches (withCrc ws) = true := by
  simp [crcMatches, withCrc]

@[simp] theorem length_withCrc (ws : List Word) : (withCrc ws).length = ws.length + 1 := by
  simp [withCrc]

@[simp] theorem length_paddingWords (n : Nat) : (paddingWords n).length = n := by
  simp [paddingWords]

/-- A word before the CRC is a word of the content. -/
theorem wordOf_withCrc (ws : List Word) (n : Nat) (h : n < ws.length) : wordOf (withCrc ws) n = wordOf ws n := by
  simp [wordOf, withCrc, List.getD_eq_getElem?_getD, List.getElem?_append_left h]

@[simp] theorem headerWord_kind (k : FrameKind) (d a : Addr) : (headerWord k d a).extractLsb' 12 4 = k.code := by
  simp only [headerWord]
  generalize k.code = c
  ext i hi
  simp only [BitVec.getElem_extractLsb', BitVec.getLsbD_append]
  have h1 : ¬ (12 + i < 6) := by omega
  have h2 : ¬ (12 + i - 6 < 6) := by omega
  simp [h1, h2, show 12 + i - 6 - 6 = i by omega, BitVec.getLsbD_eq_getElem hi]

@[simp] theorem headerWord_dest (k : FrameKind) (d a : Addr) : (headerWord k d a).extractLsb' 6 6 = d := by
  simp only [headerWord]
  ext i hi
  simp only [BitVec.getElem_extractLsb', BitVec.getLsbD_append]
  have h1 : ¬ (6 + i < 6) := by omega
  simp [hi]

@[simp] theorem headerWord_src (k : FrameKind) (d a : Addr) : (headerWord k d a).extractLsb' 0 6 = a := by
  simp only [headerWord]
  ext i hi
  simp only [BitVec.getElem_extractLsb', BitVec.getLsbD_append]
  simp [hi]

/-- The high and the low byte of a second header word made of two. -/
@[simp] theorem extract_high (a b : BitVec 8) : ((a ++ b : BitVec 16)).extractLsb' 8 8 = a := by
  ext i hi
  simp only [BitVec.getElem_extractLsb', BitVec.getLsbD_append]
  simp [BitVec.getLsbD_eq_getElem hi]

@[simp] theorem extract_low (a b : BitVec 8) : ((a ++ b : BitVec 16)).extractLsb' 0 8 = b := by
  ext i hi
  simp only [BitVec.getElem_extractLsb', BitVec.getLsbD_append]
  simp [hi]

@[simp] theorem kindOfCode_code (k : FrameKind) : kindOfCode k.code = some k := by
  cases k <;> rfl

/-! ### The fields of a frame that starts with a made header word -/

section
variable (k : FrameKind) (d a : Addr) (w : Word) (ws : List Word)

@[simp] theorem wordOf_zero : wordOf (withCrc (headerWord k d a :: ws)) 0 = headerWord k d a := by
  simp [wordOf, withCrc]

@[simp] theorem wordOf_one : wordOf (withCrc (headerWord k d a :: w :: ws)) 1 = w := by
  simp [wordOf, withCrc]

@[simp] theorem kindOf_made : kindOf (withCrc (headerWord k d a :: ws)) = some k := by
  have h : withCrc (headerWord k d a :: ws) = headerWord k d a :: (ws ++ [crc (headerWord k d a :: ws)]) := rfl
  rw [h, kindOf]
  simp [kindField, wordOf]

@[simp] theorem destOf_made : destOf (withCrc (headerWord k d a :: ws)) = d := by
  simp [destOf]

@[simp] theorem srcOf_made : srcOf (withCrc (headerWord k d a :: ws)) = a := by
  simp [srcOf]

/-- A made frame is valid when its length keeps its kind's rule (R2). -/
theorem frameValid_made : frameValid (withCrc (headerWord k d a :: ws)) = lengthOk k (withCrc (headerWord k d a :: ws)) := by
  simp [frameValid]

end

/-! ### Frames that commands spell -/

/-- A REQUEST of 5 to 261 body words is valid (R2). -/
theorem frameValid_request (r : Request) (code : BitVec 8) (h5 : 5 ≤ r.body.length) (h : r.body.length ≤ 261) :
    frameValid (withCrc (requestWords r code)) = true := by
  simp only [requestWords, List.cons_append, List.nil_append, frameValid_made, lengthOk, length_withCrc,
    List.length_cons, decide_eq_true_eq, Config.maxFrame]
  omega

/-- A SWEEP whose count field is its slot count, 1 to 256, is valid (R2). -/
theorem frameValid_sweep (h : Header) (n m c : Word) (slots : List Word) (h1 : 1 ≤ slots.length)
    (h2 : slots.length ≤ 256) (hc : c.toNat % 512 = slots.length) :
    frameValid (withCrc (sweepWords h n m c slots)) = true := by
  have h3 : slotCountOf (withCrc (sweepWords h n m c slots)) = slots.length := by
    simp [slotCountOf, wordOf, withCrc, sweepWords, hc]
  simp only [sweepWords, List.cons_append, List.nil_append] at h3 ⊢
  rw [frameValid_made]
  simp only [lengthOk, length_withCrc, List.length_cons, decide_eq_true_eq]
  rw [h3]
  omega

/-- An IDLE, EVENT, RESET or BREAK of header, second header word and at most 261 words of padding is valid (R2). -/
theorem frameValid_plain (k : FrameKind) (h : Header) (second : Word) (padding : List Word)
    (hk : k = .idle ∨ k = .event ∨ k = .reset ∨ k = .brk) (hp : padding.length ≤ 261) :
    frameValid (withCrc (plainWords k h second padding)) = true := by
  simp only [plainWords, List.cons_append, List.nil_append, frameValid_made]
  rcases hk with rfl | rfl | rfl | rfl <;>
    simp only [lengthOk, length_withCrc, List.length_cons, decide_eq_true_eq, Config.maxFrame] <;> omega

/-! ### Frames that the node makes -/

theorem length_idleFrame (b : Bool) (n : Nat) (h : 3 ≤ n) : (idleFrame b n).length = n := by
  simp [idleFrame]
  omega

/-- The IDLE frames of R6 and R12 are valid frames. -/
theorem frameValid_idleFrame (b : Bool) (n : Nat) (h3 : 3 ≤ n) (h : n ≤ 264) : frameValid (idleFrame b n) = true := by
  have hl := length_idleFrame b n h3
  simp only [idleFrame, List.cons_append, List.nil_append] at hl ⊢
  simp only [frameValid_made, lengthOk, hl, decide_eq_true_eq, Config.maxFrame]
  exact ⟨h3, h⟩

/-- The length of the damaged IDLE is held within 3 to 264 (R6). -/
theorem damagedLength_bounds (n : Nat) : 3 ≤ damagedLength n ∧ damagedLength n ≤ 264 := by
  simp only [damagedLength, Config.maxFrame]
  omega

/-- The BREAK frame is a valid frame of 8 words (R3). -/
theorem breakFrame_valid (strap : Addr) : frameValid (breakFrame strap) = true ∧ (breakFrame strap).length = 8 := by
  simp only [breakFrame, List.cons_append, List.nil_append, frameValid_made, lengthOk, length_withCrc,
    List.length_cons, length_paddingWords, decide_eq_true_eq, Config.maxFrame]
  decide

/-- The NOTICE frame is a valid frame of 16 words (R132). -/
theorem noticeFrame_valid (s : State) (n : Notice) (number : BitVec 8) :
    frameValid (s.noticeFrame n number) = true ∧ (s.noticeFrame n number).length = 16 := by
  simp only [State.noticeFrame, List.cons_append, List.nil_append, frameValid_made, lengthOk, length_withCrc,
    List.length_cons, length_paddingWords, decide_eq_true_eq]
  decide

end Sys2Proof.Machine
end

