-- ==== Sys2Proof/Laws/State.lean ====
section
/-! SUPPORT. One lemma per field and update of State: each shared operation that is a plain record update, field by field.
All are true by unfolding, so no later proof unfolds a record update. (Where a whole table is mapped, `simp` is told the name:
`rfl` would compare the tables element by element.) -/

namespace Sys2Proof.Machine

variable (s : State)

/-! `State.bump` -/

@[simp] theorem State.bump_resetLow (c : Counter) (d : Nat) : (s.bump c d).resetLow = s.resetLow := rfl
@[simp] theorem State.bump_strap (c : Counter) (d : Nat) : (s.bump c d).strap = s.strap := rfl
@[simp] theorem State.bump_port (c : Counter) (d : Nat) : (s.bump c d).port = s.port := rfl
@[simp] theorem State.bump_receiver (c : Counter) (d : Nat) : (s.bump c d).receiver = s.receiver := rfl
@[simp] theorem State.bump_watches (c : Counter) (d : Nat) : (s.bump c d).watches = s.watches := rfl
@[simp] theorem State.bump_profiles (c : Counter) (d : Nat) : (s.bump c d).profiles = s.profiles := rfl
@[simp] theorem State.bump_contexts (c : Counter) (d : Nat) : (s.bump c d).contexts = s.contexts := rfl
@[simp] theorem State.bump_captureSeq (c : Counter) (d : Nat) : (s.bump c d).captureSeq = s.captureSeq := rfl
@[simp] theorem State.bump_ring (c : Counter) (d : Nat) : (s.bump c d).ring = s.ring := rfl
@[simp] theorem State.bump_notices (c : Counter) (d : Nat) : (s.bump c d).notices = s.notices := rfl
@[simp] theorem State.bump_events (c : Counter) (d : Nat) : (s.bump c d).events = s.events := rfl
@[simp] theorem State.bump_lines (c : Counter) (d : Nat) : (s.bump c d).lines = s.lines := rfl
@[simp] theorem State.bump_session (c : Counter) (d : Nat) : (s.bump c d).session = s.session := rfl
@[simp] theorem State.bump_params (c : Counter) (d : Nat) : (s.bump c d).params = s.params := rfl
@[simp] theorem State.bump_counters (c : Counter) (d : Nat) :
    (s.bump c d).counters =
      setAt s.counters c.index (satAdd (s.counter c) d) := rfl
@[simp] theorem State.bump_script (c : Counter) (d : Nat) : (s.bump c d).script = s.script := rfl
@[simp] theorem State.bump_draws (c : Counter) (d : Nat) : (s.bump c d).draws = s.draws := rfl
@[simp] theorem State.bump_pending (c : Counter) (d : Nat) : (s.bump c d).pending = s.pending := rfl

/-! `State.emit` -/

@[simp] theorem State.emit_resetLow (o : OutItem) : (s.emit o).resetLow = s.resetLow := rfl
@[simp] theorem State.emit_strap (o : OutItem) : (s.emit o).strap = s.strap := rfl
@[simp] theorem State.emit_port (o : OutItem) : (s.emit o).port = { s.port with out := s.port.out ++ [o] } := rfl
@[simp] theorem State.emit_receiver (o : OutItem) : (s.emit o).receiver = s.receiver := rfl
@[simp] theorem State.emit_watches (o : OutItem) : (s.emit o).watches = s.watches := rfl
@[simp] theorem State.emit_profiles (o : OutItem) : (s.emit o).profiles = s.profiles := rfl
@[simp] theorem State.emit_contexts (o : OutItem) : (s.emit o).contexts = s.contexts := rfl
@[simp] theorem State.emit_captureSeq (o : OutItem) : (s.emit o).captureSeq = s.captureSeq := rfl
@[simp] theorem State.emit_ring (o : OutItem) : (s.emit o).ring = s.ring := rfl
@[simp] theorem State.emit_notices (o : OutItem) : (s.emit o).notices = s.notices := rfl
@[simp] theorem State.emit_events (o : OutItem) : (s.emit o).events = s.events := rfl
@[simp] theorem State.emit_lines (o : OutItem) : (s.emit o).lines = s.lines := rfl
@[simp] theorem State.emit_session (o : OutItem) : (s.emit o).session = s.session := rfl
@[simp] theorem State.emit_params (o : OutItem) : (s.emit o).params = s.params := rfl
@[simp] theorem State.emit_counters (o : OutItem) : (s.emit o).counters = s.counters := rfl
@[simp] theorem State.emit_script (o : OutItem) : (s.emit o).script = s.script := rfl
@[simp] theorem State.emit_draws (o : OutItem) : (s.emit o).draws = s.draws := rfl
@[simp] theorem State.emit_pending (o : OutItem) : (s.emit o).pending = s.pending := rfl

/-! `State.setQueue` -/

@[simp] theorem State.setQueue_resetLow (q : List Notice) : (s.setQueue q).resetLow = s.resetLow := rfl
@[simp] theorem State.setQueue_strap (q : List Notice) : (s.setQueue q).strap = s.strap := rfl
@[simp] theorem State.setQueue_port (q : List Notice) : (s.setQueue q).port = s.port := rfl
@[simp] theorem State.setQueue_receiver (q : List Notice) : (s.setQueue q).receiver = s.receiver := rfl
@[simp] theorem State.setQueue_watches (q : List Notice) : (s.setQueue q).watches = s.watches := rfl
@[simp] theorem State.setQueue_profiles (q : List Notice) : (s.setQueue q).profiles = s.profiles := rfl
@[simp] theorem State.setQueue_contexts (q : List Notice) : (s.setQueue q).contexts = s.contexts := rfl
@[simp] theorem State.setQueue_captureSeq (q : List Notice) : (s.setQueue q).captureSeq = s.captureSeq := rfl
@[simp] theorem State.setQueue_ring (q : List Notice) : (s.setQueue q).ring = s.ring := rfl
@[simp] theorem State.setQueue_notices (q : List Notice) : (s.setQueue q).notices = { s.notices with queue := q } := rfl
@[simp] theorem State.setQueue_events (q : List Notice) : (s.setQueue q).events = s.events := rfl
@[simp] theorem State.setQueue_lines (q : List Notice) : (s.setQueue q).lines = s.lines := rfl
@[simp] theorem State.setQueue_session (q : List Notice) : (s.setQueue q).session = s.session := rfl
@[simp] theorem State.setQueue_params (q : List Notice) : (s.setQueue q).params = s.params := rfl
@[simp] theorem State.setQueue_counters (q : List Notice) : (s.setQueue q).counters = s.counters := rfl
@[simp] theorem State.setQueue_script (q : List Notice) : (s.setQueue q).script = s.script := rfl
@[simp] theorem State.setQueue_draws (q : List Notice) : (s.setQueue q).draws = s.draws := rfl
@[simp] theorem State.setQueue_pending (q : List Notice) : (s.setQueue q).pending = s.pending := rfl

/-! `State.modifyWatch` -/

@[simp] theorem State.modifyWatch_resetLow (i : Fin 32) (f : Watch → Watch) :
    (s.modifyWatch i f).resetLow =
      s.resetLow := rfl
@[simp] theorem State.modifyWatch_strap (i : Fin 32) (f : Watch → Watch) : (s.modifyWatch i f).strap = s.strap := rfl
@[simp] theorem State.modifyWatch_port (i : Fin 32) (f : Watch → Watch) : (s.modifyWatch i f).port = s.port := rfl
@[simp] theorem State.modifyWatch_receiver (i : Fin 32) (f : Watch → Watch) :
    (s.modifyWatch i f).receiver =
      s.receiver := rfl
@[simp] theorem State.modifyWatch_watches (i : Fin 32) (f : Watch → Watch) :
    (s.modifyWatch i f).watches =
      setAt s.watches i (s.watches[i].map f) := rfl
@[simp] theorem State.modifyWatch_profiles (i : Fin 32) (f : Watch → Watch) :
    (s.modifyWatch i f).profiles =
      s.profiles := rfl
@[simp] theorem State.modifyWatch_contexts (i : Fin 32) (f : Watch → Watch) :
    (s.modifyWatch i f).contexts =
      s.contexts := rfl
@[simp] theorem State.modifyWatch_captureSeq (i : Fin 32) (f : Watch → Watch) :
    (s.modifyWatch i f).captureSeq =
      s.captureSeq := rfl
@[simp] theorem State.modifyWatch_ring (i : Fin 32) (f : Watch → Watch) : (s.modifyWatch i f).ring = s.ring := rfl
@[simp] theorem State.modifyWatch_notices (i : Fin 32) (f : Watch → Watch) :
    (s.modifyWatch i f).notices =
      s.notices := rfl
@[simp] theorem State.modifyWatch_events (i : Fin 32) (f : Watch → Watch) : (s.modifyWatch i f).events = s.events := rfl
@[simp] theorem State.modifyWatch_lines (i : Fin 32) (f : Watch → Watch) : (s.modifyWatch i f).lines = s.lines := rfl
@[simp] theorem State.modifyWatch_session (i : Fin 32) (f : Watch → Watch) :
    (s.modifyWatch i f).session =
      s.session := rfl
@[simp] theorem State.modifyWatch_params (i : Fin 32) (f : Watch → Watch) : (s.modifyWatch i f).params = s.params := rfl
@[simp] theorem State.modifyWatch_counters (i : Fin 32) (f : Watch → Watch) :
    (s.modifyWatch i f).counters =
      s.counters := rfl
@[simp] theorem State.modifyWatch_script (i : Fin 32) (f : Watch → Watch) : (s.modifyWatch i f).script = s.script := rfl
@[simp] theorem State.modifyWatch_draws (i : Fin 32) (f : Watch → Watch) : (s.modifyWatch i f).draws = s.draws := rfl
@[simp] theorem State.modifyWatch_pending (i : Fin 32) (f : Watch → Watch) :
    (s.modifyWatch i f).pending =
      s.pending := rfl

/-! `State.modifyContext` -/

@[simp] theorem State.modifyContext_resetLow (k : Fin 4) (f : Context → Context) :
    (s.modifyContext k f).resetLow =
      s.resetLow := rfl
@[simp] theorem State.modifyContext_strap (k : Fin 4) (f : Context → Context) :
    (s.modifyContext k f).strap =
      s.strap := rfl
@[simp] theorem State.modifyContext_port (k : Fin 4) (f : Context → Context) :
    (s.modifyContext k f).port =
      s.port := rfl
@[simp] theorem State.modifyContext_receiver (k : Fin 4) (f : Context → Context) :
    (s.modifyContext k f).receiver =
      s.receiver := rfl
@[simp] theorem State.modifyContext_watches (k : Fin 4) (f : Context → Context) :
    (s.modifyContext k f).watches =
      s.watches := rfl
@[simp] theorem State.modifyContext_profiles (k : Fin 4) (f : Context → Context) :
    (s.modifyContext k f).profiles =
      s.profiles := rfl
@[simp] theorem State.modifyContext_contexts (k : Fin 4) (f : Context → Context) :
    (s.modifyContext k f).contexts =
      setAt s.contexts k (s.contexts[k].map f) := rfl
@[simp] theorem State.modifyContext_captureSeq (k : Fin 4) (f : Context → Context) :
    (s.modifyContext k f).captureSeq =
      s.captureSeq := rfl
@[simp] theorem State.modifyContext_ring (k : Fin 4) (f : Context → Context) :
    (s.modifyContext k f).ring =
      s.ring := rfl
@[simp] theorem State.modifyContext_notices (k : Fin 4) (f : Context → Context) :
    (s.modifyContext k f).notices =
      s.notices := rfl
@[simp] theorem State.modifyContext_events (k : Fin 4) (f : Context → Context) :
    (s.modifyContext k f).events =
      s.events := rfl
@[simp] theorem State.modifyContext_lines (k : Fin 4) (f : Context → Context) :
    (s.modifyContext k f).lines =
      s.lines := rfl
@[simp] theorem State.modifyContext_session (k : Fin 4) (f : Context → Context) :
    (s.modifyContext k f).session =
      s.session := rfl
@[simp] theorem State.modifyContext_params (k : Fin 4) (f : Context → Context) :
    (s.modifyContext k f).params =
      s.params := rfl
@[simp] theorem State.modifyContext_counters (k : Fin 4) (f : Context → Context) :
    (s.modifyContext k f).counters =
      s.counters := rfl
@[simp] theorem State.modifyContext_script (k : Fin 4) (f : Context → Context) :
    (s.modifyContext k f).script =
      s.script := rfl
@[simp] theorem State.modifyContext_draws (k : Fin 4) (f : Context → Context) :
    (s.modifyContext k f).draws =
      s.draws := rfl
@[simp] theorem State.modifyContext_pending (k : Fin 4) (f : Context → Context) :
    (s.modifyContext k f).pending =
      s.pending := rfl

/-! `State.modifySegment` -/

@[simp] theorem State.modifySegment_resetLow (g : Fin 64) (f : Segment → Segment) :
    (s.modifySegment g f).resetLow =
      s.resetLow := rfl
@[simp] theorem State.modifySegment_strap (g : Fin 64) (f : Segment → Segment) :
    (s.modifySegment g f).strap =
      s.strap := rfl
@[simp] theorem State.modifySegment_port (g : Fin 64) (f : Segment → Segment) :
    (s.modifySegment g f).port =
      s.port := rfl
@[simp] theorem State.modifySegment_receiver (g : Fin 64) (f : Segment → Segment) :
    (s.modifySegment g f).receiver =
      s.receiver := rfl
@[simp] theorem State.modifySegment_watches (g : Fin 64) (f : Segment → Segment) :
    (s.modifySegment g f).watches =
      s.watches := rfl
@[simp] theorem State.modifySegment_profiles (g : Fin 64) (f : Segment → Segment) :
    (s.modifySegment g f).profiles =
      s.profiles := rfl
@[simp] theorem State.modifySegment_contexts (g : Fin 64) (f : Segment → Segment) :
    (s.modifySegment g f).contexts =
      s.contexts := rfl
@[simp] theorem State.modifySegment_captureSeq (g : Fin 64) (f : Segment → Segment) :
    (s.modifySegment g f).captureSeq =
      s.captureSeq := rfl
@[simp] theorem State.modifySegment_ring (g : Fin 64) (f : Segment → Segment) :
    (s.modifySegment g f).ring =
      { s.ring with segs := setAt s.ring.segs g (s.ring.segs[g].map f) } := rfl
@[simp] theorem State.modifySegment_notices (g : Fin 64) (f : Segment → Segment) :
    (s.modifySegment g f).notices =
      s.notices := rfl
@[simp] theorem State.modifySegment_events (g : Fin 64) (f : Segment → Segment) :
    (s.modifySegment g f).events =
      s.events := rfl
@[simp] theorem State.modifySegment_lines (g : Fin 64) (f : Segment → Segment) :
    (s.modifySegment g f).lines =
      s.lines := rfl
@[simp] theorem State.modifySegment_session (g : Fin 64) (f : Segment → Segment) :
    (s.modifySegment g f).session =
      s.session := rfl
@[simp] theorem State.modifySegment_params (g : Fin 64) (f : Segment → Segment) :
    (s.modifySegment g f).params =
      s.params := rfl
@[simp] theorem State.modifySegment_counters (g : Fin 64) (f : Segment → Segment) :
    (s.modifySegment g f).counters =
      s.counters := rfl
@[simp] theorem State.modifySegment_script (g : Fin 64) (f : Segment → Segment) :
    (s.modifySegment g f).script =
      s.script := rfl
@[simp] theorem State.modifySegment_draws (g : Fin 64) (f : Segment → Segment) :
    (s.modifySegment g f).draws =
      s.draws := rfl
@[simp] theorem State.modifySegment_pending (g : Fin 64) (f : Segment → Segment) :
    (s.modifySegment g f).pending =
      s.pending := rfl

/-! `State.setContext` -/

@[simp] theorem State.setContext_resetLow (k : Fin 4) (o : Option Context) :
    (s.setContext k o).resetLow =
      s.resetLow := rfl
@[simp] theorem State.setContext_strap (k : Fin 4) (o : Option Context) : (s.setContext k o).strap = s.strap := rfl
@[simp] theorem State.setContext_port (k : Fin 4) (o : Option Context) : (s.setContext k o).port = s.port := rfl
@[simp] theorem State.setContext_receiver (k : Fin 4) (o : Option Context) :
    (s.setContext k o).receiver =
      s.receiver := rfl
@[simp] theorem State.setContext_watches (k : Fin 4) (o : Option Context) :
    (s.setContext k o).watches =
      s.watches := rfl
@[simp] theorem State.setContext_profiles (k : Fin 4) (o : Option Context) :
    (s.setContext k o).profiles =
      s.profiles := rfl
@[simp] theorem State.setContext_contexts (k : Fin 4) (o : Option Context) :
    (s.setContext k o).contexts =
      setAt s.contexts k o := rfl
@[simp] theorem State.setContext_captureSeq (k : Fin 4) (o : Option Context) :
    (s.setContext k o).captureSeq =
      s.captureSeq := rfl
@[simp] theorem State.setContext_ring (k : Fin 4) (o : Option Context) : (s.setContext k o).ring = s.ring := rfl
@[simp] theorem State.setContext_notices (k : Fin 4) (o : Option Context) :
    (s.setContext k o).notices =
      s.notices := rfl
@[simp] theorem State.setContext_events (k : Fin 4) (o : Option Context) : (s.setContext k o).events = s.events := rfl
@[simp] theorem State.setContext_lines (k : Fin 4) (o : Option Context) : (s.setContext k o).lines = s.lines := rfl
@[simp] theorem State.setContext_session (k : Fin 4) (o : Option Context) :
    (s.setContext k o).session =
      s.session := rfl
@[simp] theorem State.setContext_params (k : Fin 4) (o : Option Context) : (s.setContext k o).params = s.params := rfl
@[simp] theorem State.setContext_counters (k : Fin 4) (o : Option Context) :
    (s.setContext k o).counters =
      s.counters := rfl
@[simp] theorem State.setContext_script (k : Fin 4) (o : Option Context) : (s.setContext k o).script = s.script := rfl
@[simp] theorem State.setContext_draws (k : Fin 4) (o : Option Context) : (s.setContext k o).draws = s.draws := rfl
@[simp] theorem State.setContext_pending (k : Fin 4) (o : Option Context) :
    (s.setContext k o).pending =
      s.pending := rfl

/-! `State.setProfile` -/

@[simp] theorem State.setProfile_resetLow (i : Fin 8) (o : Option Profile) :
    (s.setProfile i o).resetLow =
      s.resetLow := rfl
@[simp] theorem State.setProfile_strap (i : Fin 8) (o : Option Profile) : (s.setProfile i o).strap = s.strap := rfl
@[simp] theorem State.setProfile_port (i : Fin 8) (o : Option Profile) : (s.setProfile i o).port = s.port := rfl
@[simp] theorem State.setProfile_receiver (i : Fin 8) (o : Option Profile) :
    (s.setProfile i o).receiver =
      s.receiver := rfl
@[simp] theorem State.setProfile_watches (i : Fin 8) (o : Option Profile) :
    (s.setProfile i o).watches =
      s.watches := rfl
@[simp] theorem State.setProfile_profiles (i : Fin 8) (o : Option Profile) :
    (s.setProfile i o).profiles =
      setAt s.profiles i o := rfl
@[simp] theorem State.setProfile_contexts (i : Fin 8) (o : Option Profile) :
    (s.setProfile i o).contexts =
      s.contexts := rfl
@[simp] theorem State.setProfile_captureSeq (i : Fin 8) (o : Option Profile) :
    (s.setProfile i o).captureSeq =
      s.captureSeq := rfl
@[simp] theorem State.setProfile_ring (i : Fin 8) (o : Option Profile) : (s.setProfile i o).ring = s.ring := rfl
@[simp] theorem State.setProfile_notices (i : Fin 8) (o : Option Profile) :
    (s.setProfile i o).notices =
      s.notices := rfl
@[simp] theorem State.setProfile_events (i : Fin 8) (o : Option Profile) : (s.setProfile i o).events = s.events := rfl
@[simp] theorem State.setProfile_lines (i : Fin 8) (o : Option Profile) : (s.setProfile i o).lines = s.lines := rfl
@[simp] theorem State.setProfile_session (i : Fin 8) (o : Option Profile) :
    (s.setProfile i o).session =
      s.session := rfl
@[simp] theorem State.setProfile_params (i : Fin 8) (o : Option Profile) : (s.setProfile i o).params = s.params := rfl
@[simp] theorem State.setProfile_counters (i : Fin 8) (o : Option Profile) :
    (s.setProfile i o).counters =
      s.counters := rfl
@[simp] theorem State.setProfile_script (i : Fin 8) (o : Option Profile) : (s.setProfile i o).script = s.script := rfl
@[simp] theorem State.setProfile_draws (i : Fin 8) (o : Option Profile) : (s.setProfile i o).draws = s.draws := rfl
@[simp] theorem State.setProfile_pending (i : Fin 8) (o : Option Profile) :
    (s.setProfile i o).pending =
      s.pending := rfl

/-! `State.writeSegment` -/

@[simp] theorem State.writeSegment_resetLow (g : Fin 64) (n : Nat) (ws : List CapWord) :
    (s.writeSegment g n ws).resetLow =
      s.resetLow := rfl
@[simp] theorem State.writeSegment_strap (g : Fin 64) (n : Nat) (ws : List CapWord) :
    (s.writeSegment g n ws).strap =
      s.strap := rfl
@[simp] theorem State.writeSegment_port (g : Fin 64) (n : Nat) (ws : List CapWord) :
    (s.writeSegment g n ws).port =
      s.port := rfl
@[simp] theorem State.writeSegment_receiver (g : Fin 64) (n : Nat) (ws : List CapWord) :
    (s.writeSegment g n ws).receiver =
      s.receiver := rfl
@[simp] theorem State.writeSegment_watches (g : Fin 64) (n : Nat) (ws : List CapWord) :
    (s.writeSegment g n ws).watches =
      s.watches := rfl
@[simp] theorem State.writeSegment_profiles (g : Fin 64) (n : Nat) (ws : List CapWord) :
    (s.writeSegment g n ws).profiles =
      s.profiles := rfl
@[simp] theorem State.writeSegment_contexts (g : Fin 64) (n : Nat) (ws : List CapWord) :
    (s.writeSegment g n ws).contexts =
      s.contexts := rfl
@[simp] theorem State.writeSegment_captureSeq (g : Fin 64) (n : Nat) (ws : List CapWord) :
    (s.writeSegment g n ws).captureSeq =
      s.captureSeq := rfl
@[simp] theorem State.writeSegment_ring (g : Fin 64) (n : Nat) (ws : List CapWord) :
    (s.writeSegment g n ws).ring =
      { s.ring with mem := Memory.writeAll s.ring.mem (s.ring.base g + n) ws } := rfl
@[simp] theorem State.writeSegment_notices (g : Fin 64) (n : Nat) (ws : List CapWord) :
    (s.writeSegment g n ws).notices =
      s.notices := rfl
@[simp] theorem State.writeSegment_events (g : Fin 64) (n : Nat) (ws : List CapWord) :
    (s.writeSegment g n ws).events =
      s.events := rfl
@[simp] theorem State.writeSegment_lines (g : Fin 64) (n : Nat) (ws : List CapWord) :
    (s.writeSegment g n ws).lines =
      s.lines := rfl
@[simp] theorem State.writeSegment_session (g : Fin 64) (n : Nat) (ws : List CapWord) :
    (s.writeSegment g n ws).session =
      s.session := rfl
@[simp] theorem State.writeSegment_params (g : Fin 64) (n : Nat) (ws : List CapWord) :
    (s.writeSegment g n ws).params =
      s.params := rfl
@[simp] theorem State.writeSegment_counters (g : Fin 64) (n : Nat) (ws : List CapWord) :
    (s.writeSegment g n ws).counters =
      s.counters := rfl
@[simp] theorem State.writeSegment_script (g : Fin 64) (n : Nat) (ws : List CapWord) :
    (s.writeSegment g n ws).script =
      s.script := rfl
@[simp] theorem State.writeSegment_draws (g : Fin 64) (n : Nat) (ws : List CapWord) :
    (s.writeSegment g n ws).draws =
      s.draws := rfl
@[simp] theorem State.writeSegment_pending (g : Fin 64) (n : Nat) (ws : List CapWord) :
    (s.writeSegment g n ws).pending =
      s.pending := rfl

/-! `State.unlist` -/

@[simp] theorem State.unlist_resetLow (g : Fin 64) : (s.unlist g).resetLow = s.resetLow := rfl
@[simp] theorem State.unlist_strap (g : Fin 64) : (s.unlist g).strap = s.strap := rfl
@[simp] theorem State.unlist_port (g : Fin 64) : (s.unlist g).port = s.port := rfl
@[simp] theorem State.unlist_receiver (g : Fin 64) : (s.unlist g).receiver = s.receiver := rfl
@[simp] theorem State.unlist_watches (g : Fin 64) : (s.unlist g).watches = s.watches := rfl
@[simp] theorem State.unlist_profiles (g : Fin 64) : (s.unlist g).profiles = s.profiles := rfl
@[simp] theorem State.unlist_contexts (g : Fin 64) : (s.unlist g).contexts = s.contexts := rfl
@[simp] theorem State.unlist_captureSeq (g : Fin 64) : (s.unlist g).captureSeq = s.captureSeq := rfl
@[simp] theorem State.unlist_ring (g : Fin 64) :
    (s.unlist g).ring =
      { s.ring with completed := s.ring.completed.filter fun x => x ≠ g } := rfl
@[simp] theorem State.unlist_notices (g : Fin 64) : (s.unlist g).notices = s.notices := rfl
@[simp] theorem State.unlist_events (g : Fin 64) : (s.unlist g).events = s.events := rfl
@[simp] theorem State.unlist_lines (g : Fin 64) : (s.unlist g).lines = s.lines := rfl
@[simp] theorem State.unlist_session (g : Fin 64) : (s.unlist g).session = s.session := rfl
@[simp] theorem State.unlist_params (g : Fin 64) : (s.unlist g).params = s.params := rfl
@[simp] theorem State.unlist_counters (g : Fin 64) : (s.unlist g).counters = s.counters := rfl
@[simp] theorem State.unlist_script (g : Fin 64) : (s.unlist g).script = s.script := rfl
@[simp] theorem State.unlist_draws (g : Fin 64) : (s.unlist g).draws = s.draws := rfl
@[simp] theorem State.unlist_pending (g : Fin 64) : (s.unlist g).pending = s.pending := rfl

/-! `State.freeSegment` -/

@[simp] theorem State.freeSegment_resetLow (g : Fin 64) : (s.freeSegment g).resetLow = s.resetLow := rfl
@[simp] theorem State.freeSegment_strap (g : Fin 64) : (s.freeSegment g).strap = s.strap := rfl
@[simp] theorem State.freeSegment_port (g : Fin 64) : (s.freeSegment g).port = s.port := rfl
@[simp] theorem State.freeSegment_receiver (g : Fin 64) : (s.freeSegment g).receiver = s.receiver := rfl
@[simp] theorem State.freeSegment_watches (g : Fin 64) : (s.freeSegment g).watches = s.watches := rfl
@[simp] theorem State.freeSegment_profiles (g : Fin 64) : (s.freeSegment g).profiles = s.profiles := rfl
@[simp] theorem State.freeSegment_contexts (g : Fin 64) : (s.freeSegment g).contexts = s.contexts := rfl
@[simp] theorem State.freeSegment_captureSeq (g : Fin 64) : (s.freeSegment g).captureSeq = s.captureSeq := rfl
@[simp] theorem State.freeSegment_ring (g : Fin 64) :
    (s.freeSegment g).ring =
      { s.ring with completed := s.ring.completed.filter fun x => x ≠ g, segs := setAt s.ring.segs g none } := rfl
@[simp] theorem State.freeSegment_notices (g : Fin 64) : (s.freeSegment g).notices = s.notices := rfl
@[simp] theorem State.freeSegment_events (g : Fin 64) : (s.freeSegment g).events = s.events := rfl
@[simp] theorem State.freeSegment_lines (g : Fin 64) : (s.freeSegment g).lines = s.lines := rfl
@[simp] theorem State.freeSegment_session (g : Fin 64) : (s.freeSegment g).session = s.session := rfl
@[simp] theorem State.freeSegment_params (g : Fin 64) : (s.freeSegment g).params = s.params := rfl
@[simp] theorem State.freeSegment_counters (g : Fin 64) : (s.freeSegment g).counters = s.counters := rfl
@[simp] theorem State.freeSegment_script (g : Fin 64) : (s.freeSegment g).script = s.script := rfl
@[simp] theorem State.freeSegment_draws (g : Fin 64) : (s.freeSegment g).draws = s.draws := rfl
@[simp] theorem State.freeSegment_pending (g : Fin 64) : (s.freeSegment g).pending = s.pending := rfl

/-! `State.freeAll` -/

@[simp] theorem State.freeAll_resetLow : (s.freeAll).resetLow = s.resetLow := rfl
@[simp] theorem State.freeAll_strap : (s.freeAll).strap = s.strap := rfl
@[simp] theorem State.freeAll_port : (s.freeAll).port = s.port := rfl
@[simp] theorem State.freeAll_receiver : (s.freeAll).receiver = s.receiver := rfl
@[simp] theorem State.freeAll_watches : (s.freeAll).watches = s.watches := rfl
@[simp] theorem State.freeAll_profiles : (s.freeAll).profiles = s.profiles := rfl
@[simp] theorem State.freeAll_contexts : (s.freeAll).contexts = s.contexts := rfl
@[simp] theorem State.freeAll_captureSeq : (s.freeAll).captureSeq = s.captureSeq := rfl
@[simp] theorem State.freeAll_ring :
    (s.freeAll).ring =
      { s.ring with segs := Vector.replicate 64 none, completed := [], cursor := 0 } := rfl
@[simp] theorem State.freeAll_notices : (s.freeAll).notices = s.notices := rfl
@[simp] theorem State.freeAll_events : (s.freeAll).events = s.events := rfl
@[simp] theorem State.freeAll_lines : (s.freeAll).lines = s.lines := rfl
@[simp] theorem State.freeAll_session : (s.freeAll).session = s.session := rfl
@[simp] theorem State.freeAll_params : (s.freeAll).params = s.params := rfl
@[simp] theorem State.freeAll_counters : (s.freeAll).counters = s.counters := rfl
@[simp] theorem State.freeAll_script : (s.freeAll).script = s.script := rfl
@[simp] theorem State.freeAll_draws : (s.freeAll).draws = s.draws := rfl
@[simp] theorem State.freeAll_pending : (s.freeAll).pending = s.pending := rfl

/-! `State.readingReturn` -/

@[simp] theorem State.readingReturn_resetLow : (s.readingReturn).resetLow = s.resetLow := by simp [State.readingReturn]
@[simp] theorem State.readingReturn_strap : (s.readingReturn).strap = s.strap := by simp [State.readingReturn]
@[simp] theorem State.readingReturn_port : (s.readingReturn).port = s.port := by simp [State.readingReturn]
@[simp] theorem State.readingReturn_receiver : (s.readingReturn).receiver = s.receiver := by simp [State.readingReturn]
@[simp] theorem State.readingReturn_watches : (s.readingReturn).watches = s.watches := by simp [State.readingReturn]
@[simp] theorem State.readingReturn_profiles : (s.readingReturn).profiles = s.profiles := by simp [State.readingReturn]
@[simp] theorem State.readingReturn_contexts : (s.readingReturn).contexts = s.contexts := by simp [State.readingReturn]
@[simp] theorem State.readingReturn_captureSeq : (s.readingReturn).captureSeq = s.captureSeq := by simp [State.readingReturn]
@[simp] theorem State.readingReturn_ring :
    (s.readingReturn).ring =
      { s.ring with segs := mapTable (fun _ o => o.map Segment.returned) s.ring.segs } := rfl
@[simp] theorem State.readingReturn_notices : (s.readingReturn).notices = s.notices := by simp [State.readingReturn]
@[simp] theorem State.readingReturn_events : (s.readingReturn).events = s.events := by simp [State.readingReturn]
@[simp] theorem State.readingReturn_lines : (s.readingReturn).lines = s.lines := by simp [State.readingReturn]
@[simp] theorem State.readingReturn_session : (s.readingReturn).session = s.session := by simp [State.readingReturn]
@[simp] theorem State.readingReturn_params : (s.readingReturn).params = s.params := by simp [State.readingReturn]
@[simp] theorem State.readingReturn_counters : (s.readingReturn).counters = s.counters := by simp [State.readingReturn]
@[simp] theorem State.readingReturn_script : (s.readingReturn).script = s.script := by simp [State.readingReturn]
@[simp] theorem State.readingReturn_draws : (s.readingReturn).draws = s.draws := by simp [State.readingReturn]
@[simp] theorem State.readingReturn_pending : (s.readingReturn).pending = s.pending := by simp [State.readingReturn]

/-! `State.orphan` -/

@[simp] theorem State.orphan_resetLow (i : Fin 32) : (s.orphan i).resetLow = s.resetLow := by simp [State.orphan]
@[simp] theorem State.orphan_strap (i : Fin 32) : (s.orphan i).strap = s.strap := by simp [State.orphan]
@[simp] theorem State.orphan_port (i : Fin 32) : (s.orphan i).port = s.port := by simp [State.orphan]
@[simp] theorem State.orphan_receiver (i : Fin 32) : (s.orphan i).receiver = s.receiver := by simp [State.orphan]
@[simp] theorem State.orphan_watches (i : Fin 32) : (s.orphan i).watches = s.watches := by simp [State.orphan]
@[simp] theorem State.orphan_profiles (i : Fin 32) : (s.orphan i).profiles = s.profiles := by simp [State.orphan]
@[simp] theorem State.orphan_contexts (i : Fin 32) :
    (s.orphan i).contexts =
      mapTable (fun _ o => o.map (Context.forget i)) s.contexts := rfl
@[simp] theorem State.orphan_captureSeq (i : Fin 32) : (s.orphan i).captureSeq = s.captureSeq := by simp [State.orphan]
@[simp] theorem State.orphan_ring (i : Fin 32) : (s.orphan i).ring = s.ring := by simp [State.orphan]
@[simp] theorem State.orphan_notices (i : Fin 32) : (s.orphan i).notices = s.notices := by simp [State.orphan]
@[simp] theorem State.orphan_events (i : Fin 32) : (s.orphan i).events = s.events := by simp [State.orphan]
@[simp] theorem State.orphan_lines (i : Fin 32) : (s.orphan i).lines = s.lines := by simp [State.orphan]
@[simp] theorem State.orphan_session (i : Fin 32) : (s.orphan i).session = s.session := by simp [State.orphan]
@[simp] theorem State.orphan_params (i : Fin 32) : (s.orphan i).params = s.params := by simp [State.orphan]
@[simp] theorem State.orphan_counters (i : Fin 32) : (s.orphan i).counters = s.counters := by simp [State.orphan]
@[simp] theorem State.orphan_script (i : Fin 32) : (s.orphan i).script = s.script := by simp [State.orphan]
@[simp] theorem State.orphan_draws (i : Fin 32) : (s.orphan i).draws = s.draws := by simp [State.orphan]
@[simp] theorem State.orphan_pending (i : Fin 32) : (s.orphan i).pending = s.pending := by simp [State.orphan]

/-! `State.breakReceiver` -/

@[simp] theorem State.breakReceiver_resetLow : (s.breakReceiver).resetLow = s.resetLow := rfl
@[simp] theorem State.breakReceiver_strap : (s.breakReceiver).strap = s.strap := rfl
@[simp] theorem State.breakReceiver_port : (s.breakReceiver).port = s.port := rfl
@[simp] theorem State.breakReceiver_receiver :
    (s.breakReceiver).receiver =
      { s.receiver with expected := none, history := [] } := rfl
@[simp] theorem State.breakReceiver_watches : (s.breakReceiver).watches = s.watches := rfl
@[simp] theorem State.breakReceiver_profiles : (s.breakReceiver).profiles = s.profiles := rfl
@[simp] theorem State.breakReceiver_contexts : (s.breakReceiver).contexts = s.contexts := rfl
@[simp] theorem State.breakReceiver_captureSeq : (s.breakReceiver).captureSeq = s.captureSeq := rfl
@[simp] theorem State.breakReceiver_ring : (s.breakReceiver).ring = s.ring := rfl
@[simp] theorem State.breakReceiver_notices : (s.breakReceiver).notices = s.notices := rfl
@[simp] theorem State.breakReceiver_events : (s.breakReceiver).events = s.events := rfl
@[simp] theorem State.breakReceiver_lines : (s.breakReceiver).lines = s.lines := rfl
@[simp] theorem State.breakReceiver_session : (s.breakReceiver).session = s.session := rfl
@[simp] theorem State.breakReceiver_params : (s.breakReceiver).params = s.params := rfl
@[simp] theorem State.breakReceiver_counters : (s.breakReceiver).counters = s.counters := rfl
@[simp] theorem State.breakReceiver_script : (s.breakReceiver).script = s.script := rfl
@[simp] theorem State.breakReceiver_draws : (s.breakReceiver).draws = s.draws := rfl
@[simp] theorem State.breakReceiver_pending : (s.breakReceiver).pending = s.pending := rfl

/-! `State.breakWatches` -/

@[simp] theorem State.breakWatches_resetLow : (s.breakWatches).resetLow = s.resetLow := by simp [State.breakWatches]
@[simp] theorem State.breakWatches_strap : (s.breakWatches).strap = s.strap := by simp [State.breakWatches]
@[simp] theorem State.breakWatches_port : (s.breakWatches).port = s.port := by simp [State.breakWatches]
@[simp] theorem State.breakWatches_receiver : (s.breakWatches).receiver = s.receiver := by simp [State.breakWatches]
@[simp] theorem State.breakWatches_profiles : (s.breakWatches).profiles = s.profiles := by simp [State.breakWatches]
@[simp] theorem State.breakWatches_contexts : (s.breakWatches).contexts = s.contexts := by simp [State.breakWatches]
@[simp] theorem State.breakWatches_captureSeq : (s.breakWatches).captureSeq = s.captureSeq := by simp [State.breakWatches]
@[simp] theorem State.breakWatches_ring : (s.breakWatches).ring = s.ring := by simp [State.breakWatches]
@[simp] theorem State.breakWatches_notices : (s.breakWatches).notices = s.notices := by simp [State.breakWatches]
@[simp] theorem State.breakWatches_events : (s.breakWatches).events = s.events := by simp [State.breakWatches]
@[simp] theorem State.breakWatches_lines : (s.breakWatches).lines = s.lines := by simp [State.breakWatches]
@[simp] theorem State.breakWatches_session : (s.breakWatches).session = s.session := by simp [State.breakWatches]
@[simp] theorem State.breakWatches_params : (s.breakWatches).params = s.params := by simp [State.breakWatches]
@[simp] theorem State.breakWatches_counters : (s.breakWatches).counters = s.counters := by simp [State.breakWatches]
@[simp] theorem State.breakWatches_script : (s.breakWatches).script = s.script := by simp [State.breakWatches]
@[simp] theorem State.breakWatches_draws : (s.breakWatches).draws = s.draws := by simp [State.breakWatches]
@[simp] theorem State.breakWatches_pending : (s.breakWatches).pending = s.pending := by simp [State.breakWatches]

/-! `State.resetWatches` -/

@[simp] theorem State.resetWatches_resetLow : (s.resetWatches).resetLow = s.resetLow := by simp [State.resetWatches]
@[simp] theorem State.resetWatches_strap : (s.resetWatches).strap = s.strap := by simp [State.resetWatches]
@[simp] theorem State.resetWatches_port : (s.resetWatches).port = s.port := by simp [State.resetWatches]
@[simp] theorem State.resetWatches_receiver : (s.resetWatches).receiver = s.receiver := by simp [State.resetWatches]
@[simp] theorem State.resetWatches_watches :
    (s.resetWatches).watches =
      mapTable (fun _ o => o.map Watch.idleFresh) s.watches := rfl
@[simp] theorem State.resetWatches_profiles : (s.resetWatches).profiles = s.profiles := by simp [State.resetWatches]
@[simp] theorem State.resetWatches_contexts : (s.resetWatches).contexts = s.contexts := by simp [State.resetWatches]
@[simp] theorem State.resetWatches_captureSeq : (s.resetWatches).captureSeq = s.captureSeq := by simp [State.resetWatches]
@[simp] theorem State.resetWatches_ring : (s.resetWatches).ring = s.ring := by simp [State.resetWatches]
@[simp] theorem State.resetWatches_notices : (s.resetWatches).notices = s.notices := by simp [State.resetWatches]
@[simp] theorem State.resetWatches_events : (s.resetWatches).events = s.events := by simp [State.resetWatches]
@[simp] theorem State.resetWatches_lines : (s.resetWatches).lines = s.lines := by simp [State.resetWatches]
@[simp] theorem State.resetWatches_session : (s.resetWatches).session = s.session := by simp [State.resetWatches]
@[simp] theorem State.resetWatches_params : (s.resetWatches).params = s.params := by simp [State.resetWatches]
@[simp] theorem State.resetWatches_counters : (s.resetWatches).counters = s.counters := by simp [State.resetWatches]
@[simp] theorem State.resetWatches_script : (s.resetWatches).script = s.script := by simp [State.resetWatches]
@[simp] theorem State.resetWatches_draws : (s.resetWatches).draws = s.draws := by simp [State.resetWatches]
@[simp] theorem State.resetWatches_pending : (s.resetWatches).pending = s.pending := by simp [State.resetWatches]

/-! `State.resetNotices` -/

@[simp] theorem State.resetNotices_resetLow : (s.resetNotices).resetLow = s.resetLow := rfl
@[simp] theorem State.resetNotices_strap : (s.resetNotices).strap = s.strap := rfl
@[simp] theorem State.resetNotices_port : (s.resetNotices).port = s.port := rfl
@[simp] theorem State.resetNotices_receiver : (s.resetNotices).receiver = s.receiver := rfl
@[simp] theorem State.resetNotices_watches : (s.resetNotices).watches = s.watches := rfl
@[simp] theorem State.resetNotices_profiles : (s.resetNotices).profiles = s.profiles := rfl
@[simp] theorem State.resetNotices_contexts : (s.resetNotices).contexts = s.contexts := rfl
@[simp] theorem State.resetNotices_captureSeq : (s.resetNotices).captureSeq = s.captureSeq := rfl
@[simp] theorem State.resetNotices_ring : (s.resetNotices).ring = s.ring := rfl
@[simp] theorem State.resetNotices_notices :
    (s.resetNotices).notices =
      { s.notices with queue := [], nextNumber := 0, overflow := false } := rfl
@[simp] theorem State.resetNotices_events : (s.resetNotices).events = s.events := rfl
@[simp] theorem State.resetNotices_lines : (s.resetNotices).lines = s.lines := rfl
@[simp] theorem State.resetNotices_session : (s.resetNotices).session = s.session := rfl
@[simp] theorem State.resetNotices_params : (s.resetNotices).params = s.params := rfl
@[simp] theorem State.resetNotices_counters : (s.resetNotices).counters = s.counters := rfl
@[simp] theorem State.resetNotices_script : (s.resetNotices).script = s.script := rfl
@[simp] theorem State.resetNotices_draws : (s.resetNotices).draws = s.draws := rfl
@[simp] theorem State.resetNotices_pending : (s.resetNotices).pending = s.pending := rfl

/-! `State.setTimeBase` -/

@[simp] theorem State.setTimeBase_resetLow (v : BitVec 48) : (s.setTimeBase v).resetLow = s.resetLow := rfl
@[simp] theorem State.setTimeBase_strap (v : BitVec 48) : (s.setTimeBase v).strap = s.strap := rfl
@[simp] theorem State.setTimeBase_port (v : BitVec 48) : (s.setTimeBase v).port = s.port := rfl
@[simp] theorem State.setTimeBase_receiver (v : BitVec 48) : (s.setTimeBase v).receiver = s.receiver := rfl
@[simp] theorem State.setTimeBase_watches (v : BitVec 48) : (s.setTimeBase v).watches = s.watches := rfl
@[simp] theorem State.setTimeBase_profiles (v : BitVec 48) : (s.setTimeBase v).profiles = s.profiles := rfl
@[simp] theorem State.setTimeBase_contexts (v : BitVec 48) : (s.setTimeBase v).contexts = s.contexts := rfl
@[simp] theorem State.setTimeBase_captureSeq (v : BitVec 48) : (s.setTimeBase v).captureSeq = s.captureSeq := rfl
@[simp] theorem State.setTimeBase_ring (v : BitVec 48) : (s.setTimeBase v).ring = s.ring := rfl
@[simp] theorem State.setTimeBase_notices (v : BitVec 48) : (s.setTimeBase v).notices = s.notices := rfl
@[simp] theorem State.setTimeBase_events (v : BitVec 48) :
    (s.setTimeBase v).events =
      { s.events with timeBase := v } := rfl
@[simp] theorem State.setTimeBase_lines (v : BitVec 48) : (s.setTimeBase v).lines = s.lines := rfl
@[simp] theorem State.setTimeBase_session (v : BitVec 48) : (s.setTimeBase v).session = s.session := rfl
@[simp] theorem State.setTimeBase_params (v : BitVec 48) : (s.setTimeBase v).params = s.params := rfl
@[simp] theorem State.setTimeBase_counters (v : BitVec 48) : (s.setTimeBase v).counters = s.counters := rfl
@[simp] theorem State.setTimeBase_script (v : BitVec 48) : (s.setTimeBase v).script = s.script := rfl
@[simp] theorem State.setTimeBase_draws (v : BitVec 48) : (s.setTimeBase v).draws = s.draws := rfl
@[simp] theorem State.setTimeBase_pending (v : BitVec 48) : (s.setTimeBase v).pending = s.pending := rfl

/-! `State.requestPulse` -/

@[simp] theorem State.requestPulse_resetLow (p : PulseLines) : (s.requestPulse p).resetLow = s.resetLow := rfl
@[simp] theorem State.requestPulse_strap (p : PulseLines) : (s.requestPulse p).strap = s.strap := rfl
@[simp] theorem State.requestPulse_port (p : PulseLines) : (s.requestPulse p).port = s.port := rfl
@[simp] theorem State.requestPulse_receiver (p : PulseLines) : (s.requestPulse p).receiver = s.receiver := rfl
@[simp] theorem State.requestPulse_watches (p : PulseLines) : (s.requestPulse p).watches = s.watches := rfl
@[simp] theorem State.requestPulse_profiles (p : PulseLines) : (s.requestPulse p).profiles = s.profiles := rfl
@[simp] theorem State.requestPulse_contexts (p : PulseLines) : (s.requestPulse p).contexts = s.contexts := rfl
@[simp] theorem State.requestPulse_captureSeq (p : PulseLines) : (s.requestPulse p).captureSeq = s.captureSeq := rfl
@[simp] theorem State.requestPulse_ring (p : PulseLines) : (s.requestPulse p).ring = s.ring := rfl
@[simp] theorem State.requestPulse_notices (p : PulseLines) : (s.requestPulse p).notices = s.notices := rfl
@[simp] theorem State.requestPulse_events (p : PulseLines) : (s.requestPulse p).events = s.events := rfl
@[simp] theorem State.requestPulse_lines (p : PulseLines) :
    (s.requestPulse p).lines =
      { s.lines with tout0 := startPulse p.l0 s.lines.tout0, tout1 := startPulse p.l1 s.lines.tout1 } := rfl
@[simp] theorem State.requestPulse_session (p : PulseLines) : (s.requestPulse p).session = s.session := rfl
@[simp] theorem State.requestPulse_params (p : PulseLines) : (s.requestPulse p).params = s.params := rfl
@[simp] theorem State.requestPulse_counters (p : PulseLines) : (s.requestPulse p).counters = s.counters := rfl
@[simp] theorem State.requestPulse_script (p : PulseLines) : (s.requestPulse p).script = s.script := rfl
@[simp] theorem State.requestPulse_draws (p : PulseLines) : (s.requestPulse p).draws = s.draws := rfl
@[simp] theorem State.requestPulse_pending (p : PulseLines) : (s.requestPulse p).pending = s.pending := rfl

/-! `State.countValid` -/

@[simp] theorem State.countValid_resetLow : (s.countValid).resetLow = s.resetLow := rfl
@[simp] theorem State.countValid_strap : (s.countValid).strap = s.strap := rfl
@[simp] theorem State.countValid_port : (s.countValid).port = s.port.countValid := rfl
@[simp] theorem State.countValid_receiver : (s.countValid).receiver = s.receiver := rfl
@[simp] theorem State.countValid_watches : (s.countValid).watches = s.watches := rfl
@[simp] theorem State.countValid_profiles : (s.countValid).profiles = s.profiles := rfl
@[simp] theorem State.countValid_contexts : (s.countValid).contexts = s.contexts := rfl
@[simp] theorem State.countValid_captureSeq : (s.countValid).captureSeq = s.captureSeq := rfl
@[simp] theorem State.countValid_ring : (s.countValid).ring = s.ring := rfl
@[simp] theorem State.countValid_notices : (s.countValid).notices = s.notices := rfl
@[simp] theorem State.countValid_events : (s.countValid).events = s.events := rfl
@[simp] theorem State.countValid_lines : (s.countValid).lines = s.lines := rfl
@[simp] theorem State.countValid_session : (s.countValid).session = s.session := rfl
@[simp] theorem State.countValid_params : (s.countValid).params = s.params := rfl
@[simp] theorem State.countValid_counters : (s.countValid).counters = s.counters := rfl
@[simp] theorem State.countValid_script : (s.countValid).script = s.script := rfl
@[simp] theorem State.countValid_draws : (s.countValid).draws = s.draws := rfl
@[simp] theorem State.countValid_pending : (s.countValid).pending = s.pending := rfl

/-! `State.loadLease` -/

@[simp] theorem State.loadLease_resetLow : (s.loadLease).resetLow = s.resetLow := rfl
@[simp] theorem State.loadLease_strap : (s.loadLease).strap = s.strap := rfl
@[simp] theorem State.loadLease_port : (s.loadLease).port = s.port := rfl
@[simp] theorem State.loadLease_receiver : (s.loadLease).receiver = s.receiver := rfl
@[simp] theorem State.loadLease_watches : (s.loadLease).watches = s.watches := rfl
@[simp] theorem State.loadLease_profiles : (s.loadLease).profiles = s.profiles := rfl
@[simp] theorem State.loadLease_contexts : (s.loadLease).contexts = s.contexts := rfl
@[simp] theorem State.loadLease_captureSeq : (s.loadLease).captureSeq = s.captureSeq := rfl
@[simp] theorem State.loadLease_ring : (s.loadLease).ring = s.ring := rfl
@[simp] theorem State.loadLease_notices : (s.loadLease).notices = s.notices := rfl
@[simp] theorem State.loadLease_events : (s.loadLease).events = s.events := rfl
@[simp] theorem State.loadLease_lines : (s.loadLease).lines = s.lines := rfl
@[simp] theorem State.loadLease_session :
    (s.loadLease).session =
      { s.session with leaseTimer := some s.leaseTicks } := rfl
@[simp] theorem State.loadLease_params : (s.loadLease).params = s.params := rfl
@[simp] theorem State.loadLease_counters : (s.loadLease).counters = s.counters := rfl
@[simp] theorem State.loadLease_script : (s.loadLease).script = s.script := rfl
@[simp] theorem State.loadLease_draws : (s.loadLease).draws = s.draws := rfl
@[simp] theorem State.loadLease_pending : (s.loadLease).pending = s.pending := rfl

/-! `State.giveLease` -/

@[simp] theorem State.giveLease_resetLow (o : Addr) : (s.giveLease o).resetLow = s.resetLow := by simp [State.giveLease]
@[simp] theorem State.giveLease_strap (o : Addr) : (s.giveLease o).strap = s.strap := by simp [State.giveLease]
@[simp] theorem State.giveLease_port (o : Addr) : (s.giveLease o).port = s.port := by simp [State.giveLease]
@[simp] theorem State.giveLease_receiver (o : Addr) : (s.giveLease o).receiver = s.receiver := by simp [State.giveLease]
@[simp] theorem State.giveLease_watches (o : Addr) : (s.giveLease o).watches = s.watches := by simp [State.giveLease]
@[simp] theorem State.giveLease_profiles (o : Addr) : (s.giveLease o).profiles = s.profiles := by simp [State.giveLease]
@[simp] theorem State.giveLease_contexts (o : Addr) : (s.giveLease o).contexts = s.contexts := by simp [State.giveLease]
@[simp] theorem State.giveLease_captureSeq (o : Addr) : (s.giveLease o).captureSeq = s.captureSeq := by simp [State.giveLease]
@[simp] theorem State.giveLease_ring (o : Addr) :
    (s.giveLease o).ring =
      { s.ring with segs := mapTable (fun _ o => o.map Segment.returned) s.ring.segs } := by simp [State.giveLease]
@[simp] theorem State.giveLease_notices (o : Addr) : (s.giveLease o).notices = s.notices := by simp [State.giveLease]
@[simp] theorem State.giveLease_events (o : Addr) : (s.giveLease o).events = s.events := by simp [State.giveLease]
@[simp] theorem State.giveLease_lines (o : Addr) : (s.giveLease o).lines = s.lines := by simp [State.giveLease]
@[simp] theorem State.giveLease_session (o : Addr) :
    (s.giveLease o).session =
      { s.session with holder := some o, leaseTimer := some s.leaseTicks } := by simp [State.giveLease, State.leaseTicks]
@[simp] theorem State.giveLease_params (o : Addr) : (s.giveLease o).params = s.params := by simp [State.giveLease]
@[simp] theorem State.giveLease_counters (o : Addr) : (s.giveLease o).counters = s.counters := by simp [State.giveLease]
@[simp] theorem State.giveLease_script (o : Addr) : (s.giveLease o).script = s.script := by simp [State.giveLease]
@[simp] theorem State.giveLease_draws (o : Addr) : (s.giveLease o).draws = s.draws := by simp [State.giveLease]
@[simp] theorem State.giveLease_pending (o : Addr) : (s.giveLease o).pending = s.pending := by simp [State.giveLease]

/-! `State.clearLease` -/

@[simp] theorem State.clearLease_resetLow : (s.clearLease).resetLow = s.resetLow := by simp [State.clearLease]
@[simp] theorem State.clearLease_strap : (s.clearLease).strap = s.strap := by simp [State.clearLease]
@[simp] theorem State.clearLease_port : (s.clearLease).port = s.port := by simp [State.clearLease]
@[simp] theorem State.clearLease_receiver : (s.clearLease).receiver = s.receiver := by simp [State.clearLease]
@[simp] theorem State.clearLease_watches : (s.clearLease).watches = s.watches := by simp [State.clearLease]
@[simp] theorem State.clearLease_profiles : (s.clearLease).profiles = s.profiles := by simp [State.clearLease]
@[simp] theorem State.clearLease_contexts : (s.clearLease).contexts = s.contexts := by simp [State.clearLease]
@[simp] theorem State.clearLease_captureSeq : (s.clearLease).captureSeq = s.captureSeq := by simp [State.clearLease]
@[simp] theorem State.clearLease_ring :
    (s.clearLease).ring =
      { s.ring with segs := mapTable (fun _ o => o.map Segment.returned) s.ring.segs } := by simp [State.clearLease]
@[simp] theorem State.clearLease_notices : (s.clearLease).notices = s.notices := by simp [State.clearLease]
@[simp] theorem State.clearLease_events : (s.clearLease).events = s.events := by simp [State.clearLease]
@[simp] theorem State.clearLease_lines : (s.clearLease).lines = s.lines := by simp [State.clearLease]
@[simp] theorem State.clearLease_session :
    (s.clearLease).session =
      { s.session with holder := none, leaseTimer := none } := by simp [State.clearLease]
@[simp] theorem State.clearLease_params : (s.clearLease).params = s.params := by simp [State.clearLease]
@[simp] theorem State.clearLease_counters : (s.clearLease).counters = s.counters := by simp [State.clearLease]
@[simp] theorem State.clearLease_script : (s.clearLease).script = s.script := by simp [State.clearLease]
@[simp] theorem State.clearLease_draws : (s.clearLease).draws = s.draws := by simp [State.clearLease]
@[simp] theorem State.clearLease_pending : (s.clearLease).pending = s.pending := by simp [State.clearLease]

/-! `State.touchOrigin` -/

@[simp] theorem State.touchOrigin_resetLow (o : Addr) : (s.touchOrigin o).resetLow = s.resetLow := rfl
@[simp] theorem State.touchOrigin_strap (o : Addr) : (s.touchOrigin o).strap = s.strap := rfl
@[simp] theorem State.touchOrigin_port (o : Addr) : (s.touchOrigin o).port = s.port := rfl
@[simp] theorem State.touchOrigin_receiver (o : Addr) : (s.touchOrigin o).receiver = s.receiver := rfl
@[simp] theorem State.touchOrigin_watches (o : Addr) : (s.touchOrigin o).watches = s.watches := rfl
@[simp] theorem State.touchOrigin_profiles (o : Addr) : (s.touchOrigin o).profiles = s.profiles := rfl
@[simp] theorem State.touchOrigin_contexts (o : Addr) : (s.touchOrigin o).contexts = s.contexts := rfl
@[simp] theorem State.touchOrigin_captureSeq (o : Addr) : (s.touchOrigin o).captureSeq = s.captureSeq := rfl
@[simp] theorem State.touchOrigin_ring (o : Addr) : (s.touchOrigin o).ring = s.ring := rfl
@[simp] theorem State.touchOrigin_notices (o : Addr) : (s.touchOrigin o).notices = s.notices := rfl
@[simp] theorem State.touchOrigin_events (o : Addr) : (s.touchOrigin o).events = s.events := rfl
@[simp] theorem State.touchOrigin_lines (o : Addr) : (s.touchOrigin o).lines = s.lines := rfl
@[simp] theorem State.touchOrigin_session (o : Addr) :
    (s.touchOrigin o).session =
      { s.session with origins := originEntry o s.session.origins :: otherOrigins s.session.holder o s.session.origins } := rfl
@[simp] theorem State.touchOrigin_params (o : Addr) : (s.touchOrigin o).params = s.params := rfl
@[simp] theorem State.touchOrigin_counters (o : Addr) : (s.touchOrigin o).counters = s.counters := rfl
@[simp] theorem State.touchOrigin_script (o : Addr) : (s.touchOrigin o).script = s.script := rfl
@[simp] theorem State.touchOrigin_draws (o : Addr) : (s.touchOrigin o).draws = s.draws := rfl
@[simp] theorem State.touchOrigin_pending (o : Addr) : (s.touchOrigin o).pending = s.pending := rfl

/-! `State.cacheResponse` -/

@[simp] theorem State.cacheResponse_resetLow (o : Addr) (q : BitVec 8) (ws : List Word) :
    (s.cacheResponse o q ws).resetLow =
      s.resetLow := rfl
@[simp] theorem State.cacheResponse_strap (o : Addr) (q : BitVec 8) (ws : List Word) :
    (s.cacheResponse o q ws).strap =
      s.strap := rfl
@[simp] theorem State.cacheResponse_port (o : Addr) (q : BitVec 8) (ws : List Word) :
    (s.cacheResponse o q ws).port =
      s.port := rfl
@[simp] theorem State.cacheResponse_receiver (o : Addr) (q : BitVec 8) (ws : List Word) :
    (s.cacheResponse o q ws).receiver =
      s.receiver := rfl
@[simp] theorem State.cacheResponse_watches (o : Addr) (q : BitVec 8) (ws : List Word) :
    (s.cacheResponse o q ws).watches =
      s.watches := rfl
@[simp] theorem State.cacheResponse_profiles (o : Addr) (q : BitVec 8) (ws : List Word) :
    (s.cacheResponse o q ws).profiles =
      s.profiles := rfl
@[simp] theorem State.cacheResponse_contexts (o : Addr) (q : BitVec 8) (ws : List Word) :
    (s.cacheResponse o q ws).contexts =
      s.contexts := rfl
@[simp] theorem State.cacheResponse_captureSeq (o : Addr) (q : BitVec 8) (ws : List Word) :
    (s.cacheResponse o q ws).captureSeq =
      s.captureSeq := rfl
@[simp] theorem State.cacheResponse_ring (o : Addr) (q : BitVec 8) (ws : List Word) :
    (s.cacheResponse o q ws).ring =
      s.ring := rfl
@[simp] theorem State.cacheResponse_notices (o : Addr) (q : BitVec 8) (ws : List Word) :
    (s.cacheResponse o q ws).notices =
      s.notices := rfl
@[simp] theorem State.cacheResponse_events (o : Addr) (q : BitVec 8) (ws : List Word) :
    (s.cacheResponse o q ws).events =
      s.events := rfl
@[simp] theorem State.cacheResponse_lines (o : Addr) (q : BitVec 8) (ws : List Word) :
    (s.cacheResponse o q ws).lines =
      s.lines := rfl
@[simp] theorem State.cacheResponse_params (o : Addr) (q : BitVec 8) (ws : List Word) :
    (s.cacheResponse o q ws).params =
      s.params := rfl
@[simp] theorem State.cacheResponse_counters (o : Addr) (q : BitVec 8) (ws : List Word) :
    (s.cacheResponse o q ws).counters =
      s.counters := rfl
@[simp] theorem State.cacheResponse_script (o : Addr) (q : BitVec 8) (ws : List Word) :
    (s.cacheResponse o q ws).script =
      s.script := rfl
@[simp] theorem State.cacheResponse_draws (o : Addr) (q : BitVec 8) (ws : List Word) :
    (s.cacheResponse o q ws).draws =
      s.draws := rfl
@[simp] theorem State.cacheResponse_pending (o : Addr) (q : BitVec 8) (ws : List Word) :
    (s.cacheResponse o q ws).pending =
      s.pending := rfl

/-! `State.noticeLost` -/

@[simp] theorem State.noticeLost_resetLow : (s.noticeLost).resetLow = s.resetLow := rfl
@[simp] theorem State.noticeLost_strap : (s.noticeLost).strap = s.strap := rfl
@[simp] theorem State.noticeLost_port : (s.noticeLost).port = s.port := rfl
@[simp] theorem State.noticeLost_receiver : (s.noticeLost).receiver = s.receiver := rfl
@[simp] theorem State.noticeLost_watches : (s.noticeLost).watches = s.watches := rfl
@[simp] theorem State.noticeLost_profiles : (s.noticeLost).profiles = s.profiles := rfl
@[simp] theorem State.noticeLost_contexts : (s.noticeLost).contexts = s.contexts := rfl
@[simp] theorem State.noticeLost_captureSeq : (s.noticeLost).captureSeq = s.captureSeq := rfl
@[simp] theorem State.noticeLost_ring : (s.noticeLost).ring = s.ring := rfl
@[simp] theorem State.noticeLost_notices : (s.noticeLost).notices = { s.notices with overflow := true } := rfl
@[simp] theorem State.noticeLost_events : (s.noticeLost).events = s.events := rfl
@[simp] theorem State.noticeLost_lines : (s.noticeLost).lines = s.lines := rfl
@[simp] theorem State.noticeLost_session : (s.noticeLost).session = s.session := rfl
@[simp] theorem State.noticeLost_params : (s.noticeLost).params = s.params := rfl
@[simp] theorem State.noticeLost_counters :
    (s.noticeLost).counters =
      setAt s.counters Counter.noticesDropped.index (satAdd (s.counter .noticesDropped) 1) := rfl
@[simp] theorem State.noticeLost_script : (s.noticeLost).script = s.script := rfl
@[simp] theorem State.noticeLost_draws : (s.noticeLost).draws = s.draws := rfl
@[simp] theorem State.noticeLost_pending : (s.noticeLost).pending = s.pending := rfl

/-! `State.resendAt` -/

@[simp] theorem State.resendAt_resetLow (k : Nat) : (s.resendAt k).resetLow = s.resetLow := rfl
@[simp] theorem State.resendAt_strap (k : Nat) : (s.resendAt k).strap = s.strap := rfl
@[simp] theorem State.resendAt_port (k : Nat) : (s.resendAt k).port = s.port := rfl
@[simp] theorem State.resendAt_receiver (k : Nat) : (s.resendAt k).receiver = s.receiver := rfl
@[simp] theorem State.resendAt_watches (k : Nat) : (s.resendAt k).watches = s.watches := rfl
@[simp] theorem State.resendAt_profiles (k : Nat) : (s.resendAt k).profiles = s.profiles := rfl
@[simp] theorem State.resendAt_contexts (k : Nat) : (s.resendAt k).contexts = s.contexts := rfl
@[simp] theorem State.resendAt_captureSeq (k : Nat) : (s.resendAt k).captureSeq = s.captureSeq := rfl
@[simp] theorem State.resendAt_ring (k : Nat) : (s.resendAt k).ring = s.ring := rfl
@[simp] theorem State.resendAt_events (k : Nat) : (s.resendAt k).events = s.events := rfl
@[simp] theorem State.resendAt_lines (k : Nat) : (s.resendAt k).lines = s.lines := rfl
@[simp] theorem State.resendAt_session (k : Nat) : (s.resendAt k).session = s.session := rfl
@[simp] theorem State.resendAt_params (k : Nat) : (s.resendAt k).params = s.params := rfl
@[simp] theorem State.resendAt_counters (k : Nat) : (s.resendAt k).counters = s.counters := rfl
@[simp] theorem State.resendAt_script (k : Nat) : (s.resendAt k).script = s.script := rfl
@[simp] theorem State.resendAt_draws (k : Nat) : (s.resendAt k).draws = s.draws := rfl
@[simp] theorem State.resendAt_pending (k : Nat) : (s.resendAt k).pending = s.pending := rfl

/-! `State.sendAt` -/

@[simp] theorem State.sendAt_resetLow (k : Nat) (n : BitVec 8) : (s.sendAt k n).resetLow = s.resetLow := rfl
@[simp] theorem State.sendAt_strap (k : Nat) (n : BitVec 8) : (s.sendAt k n).strap = s.strap := rfl
@[simp] theorem State.sendAt_port (k : Nat) (n : BitVec 8) : (s.sendAt k n).port = s.port := rfl
@[simp] theorem State.sendAt_receiver (k : Nat) (n : BitVec 8) : (s.sendAt k n).receiver = s.receiver := rfl
@[simp] theorem State.sendAt_watches (k : Nat) (n : BitVec 8) : (s.sendAt k n).watches = s.watches := rfl
@[simp] theorem State.sendAt_profiles (k : Nat) (n : BitVec 8) : (s.sendAt k n).profiles = s.profiles := rfl
@[simp] theorem State.sendAt_contexts (k : Nat) (n : BitVec 8) : (s.sendAt k n).contexts = s.contexts := rfl
@[simp] theorem State.sendAt_captureSeq (k : Nat) (n : BitVec 8) : (s.sendAt k n).captureSeq = s.captureSeq := rfl
@[simp] theorem State.sendAt_ring (k : Nat) (n : BitVec 8) : (s.sendAt k n).ring = s.ring := rfl
@[simp] theorem State.sendAt_events (k : Nat) (n : BitVec 8) : (s.sendAt k n).events = s.events := rfl
@[simp] theorem State.sendAt_lines (k : Nat) (n : BitVec 8) : (s.sendAt k n).lines = s.lines := rfl
@[simp] theorem State.sendAt_session (k : Nat) (n : BitVec 8) : (s.sendAt k n).session = s.session := rfl
@[simp] theorem State.sendAt_params (k : Nat) (n : BitVec 8) : (s.sendAt k n).params = s.params := rfl
@[simp] theorem State.sendAt_counters (k : Nat) (n : BitVec 8) : (s.sendAt k n).counters = s.counters := rfl
@[simp] theorem State.sendAt_script (k : Nat) (n : BitVec 8) : (s.sendAt k n).script = s.script := rfl
@[simp] theorem State.sendAt_draws (k : Nat) (n : BitVec 8) : (s.sendAt k n).draws = s.draws := rfl
@[simp] theorem State.sendAt_pending (k : Nat) (n : BitVec 8) : (s.sendAt k n).pending = s.pending := rfl

end Sys2Proof.Machine
end

