-- ==== Sys2Proof/Laws/Arrival.lean ====
section
/-! SUPPORT. What the arrival of each kind of frame does, said once: the provers cite these and unfold no routing. -/

namespace Sys2Proof.Machine

/-! ### Judgement -/

/-- A valid frame in UP at an addressed node is counted and routed (R4, R12). -/
theorem State.arrive_valid (s : State) (ws : List Word) (h : s.hears) (hv : frameValid ws = true) :
    s.arrive ws = s.countValid.route ws := by
  obtain ⟨h1, h2, h3⟩ := h
  simp [State.arrive, h1, h2, State.upArrives, hv, h3]

/-- A valid frame in HUNT (R4, R11). -/
theorem State.arrive_hunt (s : State) (ws : List Word) (h1 : s.resetLow = false) (h2 : s.port.link = .hunt)
    (hv : frameValid ws = true) : s.arrive ws = s.huntValid ws := by
  simp [State.arrive, h1, h2, hv]

/-- A valid frame in UP at an unaddressed node is counted and forwarded (R11, R18). -/
theorem State.arrive_unaddressed (s : State) (ws : List Word) (h1 : s.resetLow = false) (h2 : s.port.link = .up)
    (h3 : s.addressed = false) (hv : frameValid ws = true) : s.arrive ws = s.heard ws := by
  simp [State.arrive, h1, h2, State.upArrives, hv, h3, State.heard, State.countValid, State.emit, Port.countValid]

/-- A damaged frame in HUNT or UP (R6). -/
theorem State.arrive_damaged (s : State) (ws : List Word) (h : s.receives) (hv : frameValid ws = false) :
    s.arrive ws = s.damagedArrives ws := by
  obtain ⟨h1, h2⟩ := h
  simp only [State.arrive, h1, State.upArrives, hv]
  cases hl : s.port.link <;> simp_all

/-- A frame in DOWN is no arrival (log 8). -/
theorem State.arrive_down (s : State) (ws : List Word) (h1 : s.resetLow = false) (h2 : s.port.link = .down) :
    s.arrive ws = s := by
  simp [State.arrive, h1, h2]

/-- A frame while RESETn is low is copied (R9). -/
theorem State.arrive_reset (s : State) (ws : List Word) (h : s.resetLow = true) : s.arrive ws = s.emit (.frame ws) := by
  simp [State.arrive, h]

/-- A frame that is forwarded: counted, and unchanged at the output. -/
theorem State.countValid_emit (s : State) (ws : List Word) : s.countValid.emit (.frame ws) = s.heard ws := rfl

/-! ### The fields of the frames that commands spell -/

theorem bodyOf_request (r : Request) (code : BitVec 8) : bodyOf (withCrc (requestWords r code)) = r.body := by
  simp [bodyOf, requestWords, withCrc]

theorem slotsOf_sweep (h : Header) (n m c : Word) (slots : List Word) :
    slotsOf (withCrc (sweepWords h n m c slots)) = slots := by
  simp [slotsOf, sweepWords, withCrc]

theorem markOf_sweep (h : Header) (n m c : Word) (slots : List Word) : markOf (withCrc (sweepWords h n m c slots)) = m := by
  simp [markOf, wordOf, sweepWords, withCrc]

theorem sweepNumber_sweep (h : Header) (n m c : Word) (slots : List Word) :
    sweepNumber (withCrc (sweepWords h n m c slots)) = n := by
  simp [sweepNumber, wordOf, sweepWords, withCrc]

/-- A SWEEP with its mark word stamped is the SWEEP with that mark word (R13). -/
theorem stamped_sweep (h : Header) (n m c mark : Word) (slots : List Word) :
    stamped mark (withCrc (sweepWords h n m c slots)) = withCrc (sweepWords h n (m ||| mark) c slots) := by
  simp only [stamped, markOf_sweep]
  split
  · rename_i h0
    simp [h0]
  · have hdrop : ∀ x, (c :: (slots ++ [x])).dropLast = c :: slots := fun x => by
      rw [← List.cons_append, List.dropLast_concat]
    simp [sweepWords, withCrc, hdrop]

/-! ### Routing -/

/-- A REQUEST that is reached is served, and its RESPONSE leaves in its place (R15). -/
theorem State.request_served (s : State) (r : Request) (code : BitVec 8) (h : s.reached r) :
    s.requestArrives r code =
      (s.countValid.serve r.src r.seq code r.room r.body).2.emit
        (.frame (withCrc (s.countValid.serve r.src r.seq code r.room r.body).1)) := by
  obtain ⟨hh, hd, hsrc, h5, hl⟩ := h
  rw [State.requestArrives, State.arrive_valid s _ hh (frameValid_request r code h5 hl)]
  have hroute : routeOf s.strap (withCrc (requestWords r code)) = .request := by
    simp [routeOf, requestWords, hsrc, hd]
  have hlen : (withCrc (requestWords r code)).length = r.room := by
    simp [requestWords, Request.room]
  rw [State.route, State.countValid_strap, hroute]
  simp only [State.routeRequest, bodyOf_request, hlen]
  simp [sequenceOf, requestCodeOf, requestWords]

/-- A SWEEP at an addressed node in UP (R13, R20). -/
theorem State.sweep_routed (s : State) (h : Header) (n m c : Word) (slots : List Word) (hh : s.hears)
    (h1 : 1 ≤ slots.length) (h2 : slots.length ≤ 256) (hc : c.toNat % 512 = slots.length) :
    s.arrive (withCrc (sweepWords h n m c slots)) =
      { s.heard (withCrc (sweepWords h n (m ||| s.port.markWord) c slots)) with
        port := { (s.heard (withCrc (sweepWords h n (m ||| s.port.markWord) c slots))).port with markWord := 0 }
      }.acceptSweep n m slots := by
  rw [State.arrive_valid s _ hh (frameValid_sweep h n m c slots h1 h2 hc)]
  have hroute : routeOf s.countValid.strap (withCrc (sweepWords h n m c slots)) = .sweep := by
    simp [routeOf, sweepWords]
  rw [State.route, hroute]
  simp only [State.routeSweep, sweepNumber_sweep, markOf_sweep, slotsOf_sweep, State.countValid_port,
    Port.countValid, stamped_sweep]
  rfl

/-- An IDLE of 16 words or more at an addressed node in UP (R16). -/
theorem State.idle_routed (s : State) (h : Header) (second : Word) (padding : List Word) (hh : s.hears)
    (h1 : 13 ≤ padding.length) (h2 : padding.length ≤ 261) :
    s.arrive (withCrc (plainWords .idle h second padding)) =
      s.countValid.offer.2.emit (.frame (s.countValid.offer.1.getD (withCrc (plainWords .idle h second padding)))) := by
  rw [State.arrive_valid s _ hh (frameValid_plain .idle h second padding (.inl rfl) h2)]
  have hroute : routeOf s.countValid.strap (withCrc (plainWords .idle h second padding)) = .offered := by
    simp [routeOf, plainWords]
    omega
  rw [State.route, hroute]
  rfl

/-- The event code and the flag IMMEDIATE of an EVENT's second header word (R188). -/
theorem event_fields (h : Header) (second : Word) (padding : List Word) :
    eventCodeOf (withCrc (plainWords .event h second padding)) = Fin.ofNat 16 second.toNat ∧
      immediateOf (withCrc (plainWords .event h second padding)) = second.getLsbD 15 := by
  simp [eventCodeOf, immediateOf, plainWords]

/-- A broadcast EVENT at an addressed node in UP is forwarded and taken (R12, row 4). -/
theorem State.event_broadcast (s : State) (h : Header) (second : Word) (padding : List Word) (hh : s.hears)
    (hd : h.dest = broadcast) (h2 : padding.length ≤ 261) :
    s.arrive (withCrc (plainWords .event h second padding)) =
      (s.heard (withCrc (plainWords .event h second padding))).eventArrives (Fin.ofNat 16 second.toNat)
        (second.getLsbD 15) := by
  rw [State.arrive_valid s _ hh (frameValid_plain .event h second padding (.inr (.inl rfl)) h2)]
  have hroute : routeOf s.countValid.strap (withCrc (plainWords .event h second padding)) = .eventBroadcast := by
    simp [routeOf, plainWords, hd]
  rw [State.route, hroute]
  simp only [(event_fields h second padding).1, (event_fields h second padding).2]
  rfl

/-- An EVENT to the node's own address is consumed and taken (R12, row 5). -/
theorem State.event_own (s : State) (h : Header) (second : Word) (padding : List Word) (hh : s.hears)
    (hd : h.dest = s.strap) (h2 : padding.length ≤ 261) :
    s.arrive (withCrc (plainWords .event h second padding)) =
      (s.heard (idleFrame false (padding.length + 3))).eventArrives (Fin.ofNat 16 second.toNat) (second.getLsbD 15) := by
  rw [State.arrive_valid s _ hh (frameValid_plain .event h second padding (.inr (.inl rfl)) h2)]
  have hb : s.strap ≠ broadcast := by
    have := hh.2.2
    simp only [State.addressed, Bool.and_eq_true, bne_iff_ne] at this
    exact this.2
  have hroute : routeOf s.countValid.strap (withCrc (plainWords .event h second padding)) = .eventOwn := by
    simp [routeOf, plainWords, hd, hb]
  have hlen : (withCrc (plainWords .event h second padding)).length = padding.length + 3 := by
    simp [plainWords]
  rw [State.route, hroute]
  simp only [(event_fields h second padding).1, (event_fields h second padding).2, State.consume, hlen]
  rfl

/-- A RESET from source 0 to 63 is forwarded and causes a loop reset (R12, row 6; R14). -/
theorem State.reset_broadcast (s : State) (h : Header) (second : Word) (padding : List Word) (hh : s.hears)
    (h0 : h.src = 0) (hd : h.dest = broadcast) (h2 : padding.length ≤ 261) :
    s.arrive (withCrc (plainWords .reset h second padding)) =
      (s.heard (withCrc (plainWords .reset h second padding))).loopReset := by
  rw [State.arrive_valid s _ hh (frameValid_plain .reset h second padding (.inr (.inr (.inl rfl))) h2)]
  have hroute : routeOf s.countValid.strap (withCrc (plainWords .reset h second padding)) = .resetBroadcast := by
    simp [routeOf, plainWords, hd, h0]
  rw [State.route, hroute]
  rfl

/-- A RESET from source 0 to the node's own address is consumed and causes a loop reset (R12, row 7; R14). -/
theorem State.reset_own (s : State) (h : Header) (second : Word) (padding : List Word) (hh : s.hears)
    (h0 : h.src = 0) (hd : h.dest = s.strap) (h2 : padding.length ≤ 261) :
    s.arrive (withCrc (plainWords .reset h second padding)) =
      (s.heard (idleFrame false (padding.length + 3))).loopReset := by
  rw [State.arrive_valid s _ hh (frameValid_plain .reset h second padding (.inr (.inr (.inl rfl))) h2)]
  have hb : s.strap ≠ broadcast := by
    have := hh.2.2
    simp only [State.addressed, Bool.and_eq_true, bne_iff_ne] at this
    exact this.2
  have hroute : routeOf s.countValid.strap (withCrc (plainWords .reset h second padding)) = .resetOwn := by
    simp [routeOf, plainWords, hd, h0, hb]
  have hlen : (withCrc (plainWords .reset h second padding)).length = padding.length + 3 := by
    simp [plainWords]
  rw [State.route, hroute]
  simp only [State.consume, hlen]
  rfl

end Sys2Proof.Machine
end

