-- ==== Sys2Proof/Laws/Capture.lean ====
section
/-! SUPPORT. The ends of all captures in flight where no order is open, and the frames that a fall of RESETn takes back. -/

namespace Sys2Proof.Machine

/-- With no capture in flight no context is ACTIVE. -/
theorem State.activeContexts_none (s : State) (h : ∀ k : Fin 4, s.contexts[k] = none) : s.activeContexts = [] := by
  simp only [State.activeContexts, indicesWhere]
  rw [List.filter_eq_nil_iff]
  intro k _
  simp only [Fin.getElem_fin] at h
  simp [h k]

/-- With one capture in flight its context is the one ACTIVE context. -/
theorem State.activeContexts_one (s : State) (k : Fin 4) (c : Context) (hk : s.contexts[k] = some c)
    (h : ∀ l : Fin 4, l ≠ k → s.contexts[l] = none) : s.activeContexts = [k] := by
  have e : ∀ l : Fin 4, (s.contexts[l]).isSome = decide (l = k) := by
    intro l
    by_cases hl : l = k
    · subst hl
      simp only [hk]
      simp
    · rw [h l hl]
      simp [hl]
  simp only [State.activeContexts, indicesWhere, e]
  clear e h hk
  revert k
  decide

/-- With no capture in flight the end of all captures changes nothing, and draws nothing. -/
theorem State.endAll_none (s : State) (reason : EndReason) (h : ∀ k : Fin 4, s.contexts[k] = none) : s.endAll reason = s := by
  simp [State.endAll, State.endOrder, s.activeContexts_none h]

/-- With one capture in flight the end of all captures is the end of that one, and draws nothing. -/
theorem State.endAll_one (s : State) (reason : EndReason) (k : Fin 4) (c : Context) (hk : s.contexts[k] = some c)
    (h : ∀ l : Fin 4, l ≠ k → s.contexts[l] = none) : s.endAll reason = s.endCapture k reason := by
  simp [State.endAll, State.endOrder, s.activeContexts_one k c hk h]

/-- Frames that wait at the end of the output are taken back, and what left before them stays (R9). -/
theorem dropWaiting_frames (early : List OutItem) (late : List (List Word)) :
    dropWaiting (early ++ late.map .frame) late.length = early := by
  have h : late.length ≤ ((early ++ late.map OutItem.frame).reverse.takeWhile OutItem.isFrame).length := by
    rw [List.reverse_append, List.takeWhile_append_of_pos]
    · simp
    · intro x hx
      simp at hx
      obtain ⟨y, -, rfl⟩ := hx
      rfl
  simp only [dropWaiting, Nat.min_eq_left h]
  simp

end Sys2Proof.Machine
end

