-- ==== Sys2Proof/Laws/Handler.lean ====
section
/-! SUPPORT. The request handler: the origin table, replays, and one law for a request that is taken and answered. -/

namespace Sys2Proof.Machine

/-! ### Codes -/

/-- The code of a kind names that kind (R189). -/
@[simp] theorem requestKindOf_code (k : RequestKind) : requestKindOf k.code = some k := by
  cases k <;> rfl

/-- Codes 0 and 33 to 255 name no kind (R189). -/
theorem requestKindOf_none (code : BitVec 8) (h : code = 0 ∨ 32 < code.toNat) : requestKindOf code = none := by
  rw [requestKindOf, List.find?_eq_none]
  intro k _
  rcases h with rfl | h
  · cases k <;> decide
  · intro hk
    have hk : k.code = code := by simpa using hk
    subst hk
    cases k <;> simp [RequestKind.code] at h

/-! ### The origin table -/

/-- The entry found or made for an origin is that origin's. -/
@[simp] theorem originEntry_addr (o : Addr) (l : List Origin) : (originEntry o l).addr = o := by
  rw [originEntry]
  split
  · rfl
  · rename_i e h
    simpa using List.find?_some h

/-- The other entries are those of other origins (R160). -/
theorem otherOrigins_addr (holder : Option Addr) (o : Addr) (l : List Origin) :
    ∀ e ∈ otherOrigins holder o l, e.addr ≠ o := by
  intro e he
  rw [otherOrigins] at he
  split at he
  · simpa using (List.mem_filter.1 he).2
  · rename_i hany
    have hno : ∀ e ∈ l, e.addr ≠ o := by simpa using hany
    split at he
    · exact hno e he
    · refine hno e ?_
      rw [evictOrigin, List.mem_reverse] at he
      simpa using List.mem_of_mem_eraseP he

/-- A request that is no replay finds no cached response of its number (R161). -/
theorem State.replayOf_new (s : State) (o : Addr) (q : BitVec 8)
    (h : ∀ e ∈ s.session.origins, e.addr = o → e.lastSeq ≠ some q) : s.replayOf o q = none := by
  rw [State.replayOf, originEntry]
  split
  · simp
  · rename_i e he
    have h1 := List.mem_of_find?_eq_some he
    have h2 : e.addr = o := by simpa using List.find?_some he
    simp [h e h1 h2]

/-- The response is put into the entry that the request touched (R163). -/
theorem State.cacheResponse_touched (t : State) (o : Addr) (q : BitVec 8) (ws : List Word) (holder : Option Addr)
    (l : List Origin) (h : t.session.origins = originEntry o l :: otherOrigins holder o l) :
    t.cacheResponse o q ws =
      { t with session := { t.session with
          origins := { addr := o, lastSeq := some q, cached := some ws } :: otherOrigins holder o l } } := by
  have hid : (otherOrigins holder o l).map
      (fun e => if e.addr = o then { addr := o, lastSeq := some q, cached := some ws } else e) =
        otherOrigins holder o l := by
    conv_rhs => rw [← List.map_id (otherOrigins holder o l)]
    exact List.map_congr_left fun e he => by simp [otherOrigins_addr holder o l e he]
  rw [State.cacheResponse, h]
  simp [hid]

/-! ### One law for an answered request -/

/-- The call that a request makes of its entry. -/
def callOf (r : Request) : Call := { origin := r.src, room := r.room, body := r.body }

/-- A request that is no replay, disposed of with answer `a` and state `t`, which keeps the strap value, the origin table
and of the port all but the pending mark word: the state is the answered one. -/
theorem State.request_disposed (s t : State) (r : Request) (code : BitVec 8) (a : Reply) (h : s.reached r)
    (hn : s.isNew r) (hd : (s.countValid.touchOrigin r.src).dispose code (callOf r) = (a, t))
    (hstrap : t.strap = s.strap)
    (hport : t.port = { s.countValid.port with markWord := t.port.markWord })
    (horig : t.session.origins =
      originEntry r.src s.session.origins :: otherOrigins s.session.holder r.src s.session.origins) :
    s.requestArrives r code = s.answered t r code a t.session.leaseTimer := by
  have hs : s.countValid.serve r.src r.seq code r.room r.body =
      (fillRoom r.room (t.responseWords r.src r.seq code false a),
       t.cacheResponse r.src r.seq (t.responseWords r.src r.seq code false a)) := by
    rw [State.serve, State.replayOf_new _ _ _ (by simpa using hn)]
    simp only [callOf] at hd
    simp only [hd]
  rw [State.request_served s r code h, hs, State.cacheResponse_touched t _ _ _ _ _ horig]
  have hc : t.responseWords r.src r.seq code false a = responseTo s.strap r code a := by
    rw [State.responseWords, responseTo, hstrap]
  rw [hc]
  simp only [State.answered, State.emit, responseFrame, fillRoom]
  rw [hport]
  simp [Port.countValid]

/-- What dispose does with a request of a known kind that fits and passes its class check (R162, R166). -/
theorem State.dispose_executes (s : State) (k : RequestKind) (c : Call) (hroom : k.fixedReply ≤ c.room)
    (hclass : s.classOk k c = true) :
    s.dispose k.code c =
      ((execRequest k c s).1,
       (execRequest k c s).2.restartLease ((s.session.holder == some c.origin) && k.isControl c.body) c.origin) := by
  have hr : ¬ c.room < k.fixedReply := by omega
  simp [State.dispose, hr, hclass]

/-- The class check passes for the lease holder, except for the two kinds with an origin check of their own (R164). -/
theorem State.classOk_holder (s : State) (k : RequestKind) (c : Call) (h : s.session.holder = some c.origin)
    (ha : k ≠ .ackNotices) (ht : k ≠ .takeover) : s.classOk k c = true := by
  cases k <;> simp_all [State.classOk]

/-- The class check passes for an observe request, whoever asks (R164). -/
theorem State.classOk_observe (s : State) (k : RequestKind) (c : Call) (h : k.isControl c.body = false)
    (ha : k ≠ .ackNotices) : s.classOk k c = true := by
  cases k <;> simp_all [State.classOk, RequestKind.isControl]

/-- A parameter word is the number that claims call it. -/
theorem paramSmall_number (r : Request) (n : Nat) (h : n < r.body.length) : paramSmall r.body n = some (r.number n) := by
  simp [paramSmall, paramWord, Request.number, List.getD_eq_getElem?_getD, List.getElem?_eq_getElem h]

/-- A control request of the holder that is taken and keeps the holder: `t` is the state with the entry's effect, given up
to what the taking itself changes of port and session (R15, R160, R163, R166). -/
theorem State.request_controlled (s t : State) (r : Request) (k : RequestKind) (a : Reply) (h : s.permits r k)
    (ha : k ≠ .ackNotices) (ht : k ≠ .takeover) (hc : k.isControl r.body = true)
    (he : execRequest k (callOf r) (s.countValid.touchOrigin r.src) =
      (a, { t with
        port := { s.countValid.port with markWord := t.port.markWord }
        session := { t.session with
          origins := originEntry r.src s.session.origins :: otherOrigins s.session.holder r.src s.session.origins } }))
    (hs : t.strap = s.strap) (hh : t.session.holder = s.session.holder)
    (hp : t.port = { s.port with markWord := t.port.markWord }) :
    s.requestArrives r k.code = s.controlled t r k a := by
  obtain ⟨⟨hr, hn, hf⟩, hold⟩ := h
  have hd := State.dispose_executes (s.countValid.touchOrigin r.src) k (callOf r) (by simpa [callOf] using hf)
    (State.classOk_holder _ k (callOf r) (by simpa [callOf] using hold) ha ht)
  rw [he] at hd
  have hb : (s.countValid.touchOrigin r.src).session.holder == some (callOf r).origin := by simp [callOf, hold]
  have hk : k.isControl (callOf r).body = true := hc
  rw [hb, hk] at hd
  rw [State.request_disposed s _ r k.code a hr hn hd]
  · simp [State.controlled, State.answered, State.restartLease, callOf, hh, hold, State.loadLease, State.leaseTicks]
    rw [hp]
    simp [Port.countValid]
  · simp [State.restartLease, callOf, hh, hold, hs]
  · simp [State.restartLease, callOf, hh, hold]
  · simp [State.restartLease, callOf, hh, hold, State.loadLease]

/-- An observe request that is taken: `t` is the state with the entry's effect (R164, R166). -/
theorem State.request_observed (s t : State) (r : Request) (k : RequestKind) (a : Reply) (h : s.admits r k)
    (hc : k.isControl r.body = false) (hq : (s.countValid.touchOrigin r.src).classOk k (callOf r) = true)
    (he : execRequest k (callOf r) (s.countValid.touchOrigin r.src) =
      (a, { t with
        port := { s.countValid.port with markWord := t.port.markWord }
        session := { t.session with
          origins := originEntry r.src s.session.origins :: otherOrigins s.session.holder r.src s.session.origins } }))
    (hs : t.strap = s.strap) (hp : t.port = { s.port with markWord := t.port.markWord }) :
    s.requestArrives r k.code = s.observed t r k a := by
  obtain ⟨hr, hn, hf⟩ := h
  have hd := State.dispose_executes (s.countValid.touchOrigin r.src) k (callOf r) (by simpa [callOf] using hf) hq
  have hk : k.isControl (callOf r).body = false := hc
  rw [he, hk] at hd
  rw [State.request_disposed s _ r k.code a hr hn hd]
  · simp [State.observed, State.answered, State.restartLease]
    rw [hp]
    simp [Port.countValid]
  · simp [State.restartLease, hs]
  · simp [State.restartLease]
  · simp [State.restartLease]

/-- A request below the fixed reply is answered ROOM (R162, check 2). -/
theorem State.dispose_room (s : State) (k : RequestKind) (c : Call) (hroom : c.room < k.fixedReply) :
    s.dispose k.code c =
      (.other .room [], s.restartLease ((s.session.holder == some c.origin) && k.isControl c.body) c.origin) := by
  simp [State.dispose, hroom]

/-- A request of no known kind is answered UNKNOWN (R162, check 1). -/
theorem State.dispose_unknown (s : State) (code : BitVec 8) (c : Call) (h : code = 0 ∨ 32 < code.toNat) :
    s.dispose code c = (.other .unknown [], s) := by
  simp [State.dispose, requestKindOf_none code h]

end Sys2Proof.Machine
end

