-- ==== Sys2Proof/Laws/Memory.lean ====
section
/-! SUPPORT. Capture memory: a read after a write, and that every operation keeps the canonical form. -/

namespace Sys2Proof.Machine

/-- A word reads as it was written. -/
theorem Memory.read_write_same (m : Memory) (a : Nat) (v : CapWord) (h : m.wf) : (Memory.write m a v).read a = v := by
  obtain ⟨hs, hv⟩ := h
  induction m with
  | nil => simp only [Memory.write]; split <;> simp_all [Memory.read]
  | cons c rest ih =>
    obtain ⟨b, w⟩ := c
    have hrest : rest.Pairwise (fun c d => c.1 < d.1) := (List.pairwise_cons.1 hs).2
    have hhead : ∀ d ∈ rest, b < d.1 := (List.pairwise_cons.1 hs).1
    have hgone : ∀ l : Memory, (∀ d ∈ l, a < d.1) → Memory.read l a = Memory.unlisted := by
      intro l
      induction l with
      | nil => intro _; rfl
      | cons d l ih' =>
        intro hl
        have := hl d (by simp)
        simp [Memory.read, ih' (fun e he => hl e (by simp [he])), show a ≠ d.1 by omega]
    simp only [Memory.write]
    split
    · split
      · rename_i hab hv0
        rw [hgone ((b, w) :: rest), hv0]
        intro d hd
        rcases List.mem_cons.1 hd with rfl | hd
        · exact hab
        · exact Nat.lt_trans hab (hhead d hd)
      · simp [Memory.read]
    · split
      · split
        · rename_i hab hv0
          rw [hgone rest, hv0]
          intro d hd
          have := hhead d hd
          omega
        · simp [Memory.read]
      · rename_i h1 h2
        simp only [Memory.read, h2, if_false]
        exact ih hrest fun c hc => hv c (by simp [hc])

/-- A write leaves every other word alone. -/
theorem Memory.read_write_other (m : Memory) (a b : Nat) (v : CapWord) (h : b ≠ a) :
    (Memory.write m a v).read b = m.read b := by
  induction m with
  | nil => simp only [Memory.write]; split <;> simp [Memory.read, h]
  | cons c rest ih =>
    obtain ⟨d, w⟩ := c
    simp only [Memory.write]
    split
    · split <;> simp [Memory.read, h]
    · split
      · rename_i had
        subst had
        split <;> simp [Memory.read, h]
      · simp [Memory.read, ih]

/-- The addresses of a written memory are the old ones and the written one. -/
theorem Memory.mem_write (m : Memory) (a : Nat) (v : CapWord) (c : MemCell) (h : c ∈ Memory.write m a v) :
    c ∈ m ∨ (c = (a, v) ∧ v ≠ Memory.unlisted) := by
  induction m with
  | nil => simp only [Memory.write] at h; split at h <;> simp_all
  | cons d rest ih =>
    obtain ⟨b, w⟩ := d
    simp only [Memory.write] at h
    split at h
    · split at h
      · exact .inl h
      · rename_i hv
        rcases List.mem_cons.1 h with rfl | h
        · exact .inr ⟨rfl, hv⟩
        · exact .inl h
    · split at h
      · split at h
        · exact .inl (by simp [h])
        · rename_i hv
          rcases List.mem_cons.1 h with rfl | h
          · exact .inr ⟨rfl, hv⟩
          · exact .inl (by simp [h])
      · rcases List.mem_cons.1 h with rfl | h
        · exact .inl (by simp)
        · rcases ih h with h | h
          · exact .inl (by simp [h])
          · exact .inr h

/-- A write keeps the canonical form. -/
theorem Memory.write_wf (m : Memory) (a : Nat) (v : CapWord) (h : m.wf) : (Memory.write m a v).wf := by
  refine ⟨?_, fun c hc => ?_⟩
  · obtain ⟨hs, -⟩ := h
    induction m with
    | nil => simp only [Memory.write]; split <;> simp
    | cons d rest ih =>
      obtain ⟨b, w⟩ := d
      obtain ⟨hhead, hrest⟩ := List.pairwise_cons.1 hs
      simp only [Memory.write]
      split
      · split
        · exact hs
        · refine List.pairwise_cons.2 ⟨fun d hd => ?_, hs⟩
          rcases List.mem_cons.1 hd with rfl | hd
          · assumption
          · have := hhead d hd
            simp only at this ⊢
            omega
      · split
        · rename_i hab
          subst hab
          split
          · exact hrest
          · exact List.pairwise_cons.2 ⟨hhead, hrest⟩
        · refine List.pairwise_cons.2 ⟨fun d hd => ?_, ih hrest⟩
          rcases Memory.mem_write rest a v d hd with h | ⟨rfl, -⟩
          · exact hhead d h
          · simp only
            omega
  · rcases Memory.mem_write m a v c hc with h' | ⟨rfl, hv⟩
    · exact h.2 c h'
    · exact hv

/-- Writing words one after another keeps the canonical form. -/
theorem Memory.writeAll_wf (ws : List CapWord) (m : Memory) (a : Nat) (h : m.wf) : (Memory.writeAll m a ws).wf := by
  induction ws generalizing m a with
  | nil => exact h
  | cons v ws ih => exact ih _ _ (Memory.write_wf m a v h)

/-- Words outside the written range read as before. -/
theorem Memory.read_writeAll_other (ws : List CapWord) (m : Memory) (a b : Nat) (h : b < a ∨ a + ws.length ≤ b) :
    (Memory.writeAll m a ws).read b = m.read b := by
  induction ws generalizing m a with
  | nil => rfl
  | cons v ws ih =>
    simp only [List.length_cons] at h
    rw [Memory.writeAll, ih, Memory.read_write_other] <;> omega

/-- Each word of the written range reads as it was written. -/
theorem Memory.read_writeAll_same (ws : List CapWord) (m : Memory) (a k : Nat) (h : m.wf) (hk : k < ws.length) :
    (Memory.writeAll m a ws).read (a + k) = ws[k] := by
  induction ws generalizing m a k with
  | nil => simp at hk
  | cons v ws ih =>
    cases k with
    | zero =>
      rw [Memory.writeAll, Memory.read_writeAll_other _ _ _ _ (.inl (by omega))]
      exact Memory.read_write_same m a v h
    | succ k =>
      rw [Memory.writeAll, show a + (k + 1) = a + 1 + k by omega,
        ih _ _ _ (Memory.write_wf m a v h) (by simpa using hk)]
      rfl

/-- A canonical memory reads at a listed address as it lists it. -/
theorem Memory.read_of_mem (m : Memory) (c : MemCell) (h : m.wf) (hc : c ∈ m) : m.read c.1 = c.2 := by
  obtain ⟨hs, -⟩ := h
  induction m with
  | nil => simp at hc
  | cons d rest ih =>
    obtain ⟨hhead, hrest⟩ := List.pairwise_cons.1 hs
    rcases List.mem_cons.1 hc with rfl | hc
    · simp [Memory.read]
    · have := hhead c hc
      simp [Memory.read, ih hc hrest, show c.1 ≠ d.1 by omega]

end Sys2Proof.Machine
end

