-- ==== Sys2Proof/Laws/Notices.lean ====
section
/-! SUPPORT. Postings: everything a posting can do (R128, R129), and that it touches the notice unit and the counters only. -/

namespace Sys2Proof.Machine

/-- The entry that a posting would add. -/
def postedNotice (kind : NoticeKind) (subject : Nat) (cls : SubjectClass) : Notice :=
  { kind := kind, subject := subject, cls := cls, repeats := 1, sent := none }

/-- Everything a posting can do: it coalesces, it adds at the young end, it evicts the youngest QUEUED entry of the lowest
priority, or it is dropped (R128, R129). -/
theorem State.post_cases (s : State) (kind : NoticeKind) (subject : Nat) (cls : SubjectClass) :
    (∃ q, coalesce (postedNotice kind subject cls) s.notices.queue = some q ∧ s.post kind subject cls = s.setQueue q) ∨
    (coalesce (postedNotice kind subject cls) s.notices.queue = none ∧ s.notices.queue.length < Config.maxNotices ∧
      s.post kind subject cls = s.setQueue (s.notices.queue ++ [postedNotice kind subject cls])) ∨
    (coalesce (postedNotice kind subject cls) s.notices.queue = none ∧ Config.maxNotices ≤ s.notices.queue.length ∧
      ∃ p, lowestQueued s.notices.queue = some p ∧ p < kind.priority ∧
        s.post kind subject cls =
          (s.setQueue (evictYoungest p s.notices.queue ++ [postedNotice kind subject cls])).noticeLost) ∨
    (coalesce (postedNotice kind subject cls) s.notices.queue = none ∧ Config.maxNotices ≤ s.notices.queue.length ∧
      (∀ p, lowestQueued s.notices.queue = some p → kind.priority ≤ p) ∧ s.post kind subject cls = s.noticeLost) := by
  rw [show s.post kind subject cls = _ from rfl]
  simp only [State.post, postedNotice]
  split
  · rename_i q hq
    exact .inl ⟨q, hq, rfl⟩
  · rename_i hq
    split
    · exact .inr (.inl ⟨hq, ‹_›, rfl⟩)
    · rename_i hfull
      split
      · rename_i hl
        exact .inr (.inr (.inr ⟨hq, by omega, by simp [hl], rfl⟩))
      · rename_i p hl
        split
        · exact .inr (.inr (.inl ⟨hq, by omega, p, hl, ‹_›, rfl⟩))
        · refine .inr (.inr (.inr ⟨hq, by omega, fun p' hp' => ?_, rfl⟩))
          rw [hl] at hp'
          cases hp'
          omega

/-- A posting touches the notice unit and the counters only. -/
theorem State.post_frame (s : State) (kind : NoticeKind) (subject : Nat) (cls : SubjectClass) :
    s.post kind subject cls =
      { s with notices := (s.post kind subject cls).notices, counters := (s.post kind subject cls).counters } := by
  rcases s.post_cases kind subject cls with ⟨q, -, h⟩ | ⟨-, -, h⟩ | ⟨-, -, p, -, -, h⟩ | ⟨-, -, -, h⟩ <;> rw [h] <;> rfl

/-- A posting depends on the notice unit and the counters only. -/
theorem State.post_congr (s t : State) (kind : NoticeKind) (subject : Nat) (cls : SubjectClass)
    (hn : s.notices = t.notices) (hc : s.counters = t.counters) :
    t.post kind subject cls =
      { t with notices := (s.post kind subject cls).notices, counters := (s.post kind subject cls).counters } := by
  simp only [State.post, ← hn]
  split
  · simp [State.setQueue, hn, hc]
  · split
    · simp [State.setQueue, hn, hc]
    · split
      · simp [State.noticeLost, State.bump, State.counter, hn, hc]
      · split <;> simp [State.noticeLost, State.bump, State.counter, State.setQueue, hn, hc]

variable (s : State) (kind : NoticeKind) (subject : Nat) (cls : SubjectClass)

@[simp] theorem State.post_resetLow : (s.post kind subject cls).resetLow = s.resetLow := by rw [State.post_frame]
@[simp] theorem State.post_strap : (s.post kind subject cls).strap = s.strap := by rw [State.post_frame]
@[simp] theorem State.post_port : (s.post kind subject cls).port = s.port := by rw [State.post_frame]
@[simp] theorem State.post_receiver : (s.post kind subject cls).receiver = s.receiver := by rw [State.post_frame]
@[simp] theorem State.post_watches : (s.post kind subject cls).watches = s.watches := by rw [State.post_frame]
@[simp] theorem State.post_profiles : (s.post kind subject cls).profiles = s.profiles := by rw [State.post_frame]
@[simp] theorem State.post_contexts : (s.post kind subject cls).contexts = s.contexts := by rw [State.post_frame]
@[simp] theorem State.post_captureSeq : (s.post kind subject cls).captureSeq = s.captureSeq := by rw [State.post_frame]
@[simp] theorem State.post_ring : (s.post kind subject cls).ring = s.ring := by rw [State.post_frame]
@[simp] theorem State.post_events : (s.post kind subject cls).events = s.events := by rw [State.post_frame]
@[simp] theorem State.post_lines : (s.post kind subject cls).lines = s.lines := by rw [State.post_frame]
@[simp] theorem State.post_session : (s.post kind subject cls).session = s.session := by rw [State.post_frame]
@[simp] theorem State.post_params : (s.post kind subject cls).params = s.params := by rw [State.post_frame]
@[simp] theorem State.post_script : (s.post kind subject cls).script = s.script := by rw [State.post_frame]
@[simp] theorem State.post_draws : (s.post kind subject cls).draws = s.draws := by rw [State.post_frame]
@[simp] theorem State.post_pending : (s.post kind subject cls).pending = s.pending := by rw [State.post_frame]

/-! The ring-low test (R111) posts at most one notice and moves the latch. -/

/-- Everything the ring-low test can do (R111). -/
theorem State.ringLowTest_cases (s : State) :
    (s.ring.freeCount ≤ s.params.ringLow ∧ s.ring.low = true ∧ s.ringLowTest = s) ∨
    (s.ring.freeCount ≤ s.params.ringLow ∧ s.ring.low = false ∧
      s.ringLowTest = { s.post .ringLow s.ring.freeCount .count with ring := { s.ring with low := true } }) ∨
    (s.params.ringLow < s.ring.freeCount ∧ s.ringLowTest = { s with ring := { s.ring with low := false } }) := by
  simp only [State.ringLowTest]
  split
  · split
    · exact .inl ⟨‹_›, ‹_›, rfl⟩
    · rename_i h hl
      exact .inr (.inl ⟨h, by simpa using hl, by simp⟩)
  · exact .inr (.inr ⟨by omega, rfl⟩)

/-- The ring-low test touches the latch, the notice unit and the counters only. -/
theorem State.ringLowTest_frame (s : State) :
    s.ringLowTest =
      { s with ring := { s.ring with low := s.ringLowTest.ring.low }, notices := s.ringLowTest.notices,
               counters := s.ringLowTest.counters } := by
  rcases s.ringLowTest_cases with ⟨-, -, h⟩ | ⟨-, -, h⟩ | ⟨-, h⟩ <;> rw [h]
  rw [State.post_frame]

@[simp] theorem State.ringLowTest_resetLow : s.ringLowTest.resetLow = s.resetLow := by rw [State.ringLowTest_frame]
@[simp] theorem State.ringLowTest_strap : s.ringLowTest.strap = s.strap := by rw [State.ringLowTest_frame]
@[simp] theorem State.ringLowTest_port : s.ringLowTest.port = s.port := by rw [State.ringLowTest_frame]
@[simp] theorem State.ringLowTest_receiver : s.ringLowTest.receiver = s.receiver := by rw [State.ringLowTest_frame]
@[simp] theorem State.ringLowTest_watches : s.ringLowTest.watches = s.watches := by rw [State.ringLowTest_frame]
@[simp] theorem State.ringLowTest_profiles : s.ringLowTest.profiles = s.profiles := by rw [State.ringLowTest_frame]
@[simp] theorem State.ringLowTest_contexts : s.ringLowTest.contexts = s.contexts := by rw [State.ringLowTest_frame]
@[simp] theorem State.ringLowTest_captureSeq : s.ringLowTest.captureSeq = s.captureSeq := by rw [State.ringLowTest_frame]
@[simp] theorem State.ringLowTest_events : s.ringLowTest.events = s.events := by rw [State.ringLowTest_frame]
@[simp] theorem State.ringLowTest_lines : s.ringLowTest.lines = s.lines := by rw [State.ringLowTest_frame]
@[simp] theorem State.ringLowTest_session : s.ringLowTest.session = s.session := by rw [State.ringLowTest_frame]
@[simp] theorem State.ringLowTest_params : s.ringLowTest.params = s.params := by rw [State.ringLowTest_frame]
@[simp] theorem State.ringLowTest_script : s.ringLowTest.script = s.script := by rw [State.ringLowTest_frame]
@[simp] theorem State.ringLowTest_draws : s.ringLowTest.draws = s.draws := by rw [State.ringLowTest_frame]
@[simp] theorem State.ringLowTest_pending : s.ringLowTest.pending = s.pending := by rw [State.ringLowTest_frame]

end Sys2Proof.Machine
end

