-- ==== Sys2Proof/Tests/Slice0.lean ====
section
/-! SUPPORT. Tests: ill-formed commands are refused by the check; single steps of the manual's worked examples; and for
each statement with hypotheses a state and operands that meet them, clause by clause. -/

namespace Sys2Proof.Tests

open Sys2Proof.Machine

set_option Elab.async false

/-! ### States and operands -/

/-- Address 17, the link UP, no holder; open choices are taken as 0. -/
def up : State :=
  let s := State.released 17 false false [] [0, 0, 0, 0] 0 []
  { s with port := { s.port with link := .up, silence := some 1000 } }

/-- The same with the lease held by origin 4, whose last request was number 1. -/
def held : State :=
  { up with session :=
      { origins := [{ addr := 4, lastSeq := some 1, cached := some [0x3111, 0x0101, 0] }], holder := some 4
        leaseTimer := some 50000000 } }

/-- A request of number 7 from an origin to address 17, its body filled up to 110 words: a frame of 113. -/
def from_ (src : Addr) (body : List Word) : Request :=
  { dest := 17, src := src, seq := 7, body := body ++ List.replicate (110 - body.length) 0x8000 }

/-- A request of the holder. -/
def ask (body : List Word) : Request := from_ 4 body

/-- LEVEL, ABOVE 500 on slot 4, qualifier 2, no actions. -/
def plain : Contents :=
  { condition := .above 4 500, qualifier := 2, precondition := none, group := 1, budget := none, holdoff := 0
    profile := none, markCode := none, pulse := { l0 := false, l1 := false }, notify := false }

/-- RISE on slot 9 between -100 and 100, precondition watch 1 within 3 sweeps, profile 2, holdoff 1, budget 2 (4.9). -/
def rising : Contents :=
  { condition := .rise 9 (-100) 100, qualifier := 1, precondition := some { watch := 1, window := 3 }, group := 0
    budget := some 2, holdoff := 1, profile := some 2, markCode := none, pulse := { l0 := false, l1 := false }
    notify := true }

/-- A watch in a state with a fresh runtime. -/
def watch (x : WatchState) (c : Contents) : Watch := { state := x, contents := c, runtime := Runtime.fresh c }

/-- The profile of 5.7. -/
def gapProfile : Profile :=
  { slots := [12, 3, 40], pre := 3, post := 4, decimation := 1, policy := .refuse, autoRelease := false, notify := true }

/-- A capture of watch 0 into segment 5, opened on sweep 300 (5.7). -/
def capture : Context :=
  { watchRef := some 0, openingWatch := 0, profileIndex := 1, snapshot := gapProfile, segment := 5, sequence := 42
    trigger := some 300, pre := 3, post := 1, gap := 0, nextDue := some 301, used := 20 }

/-- A segment that is not FREE. -/
def segment (x : SegmentState) : Segment :=
  { state := x, sequence := 42, fill := 26, highWater := 0, autoRelease := true, endReason := .complete }

/-- A QUEUED entry for a watch. -/
def queued (k : NoticeKind) (subject : Nat) : Notice :=
  { kind := k, subject := subject, cls := .watch, repeats := 1, sent := none }

/-- A SENT entry for a watch. -/
def sentAs (number : BitVec 8) (due : Bool) (resends order subject : Nat) : Notice :=
  { kind := .watchFired, subject := subject, cls := .watch, repeats := 1
    sent := some { number := number, resends := resends, timer := if due then none else some 7, due := due, order := order } }

/-- A full queue: 31 entries for watches 0 to 30 and the one given. -/
def fullQueue (n : Notice) : List Notice := (List.range 31).map (queued .watchFired) ++ [n]

/-- A state with one watch, one profile, one context and one segment changed. -/
def State.withWatch (s : State) (i : Fin 32) (w : Watch) : State := { s with watches := setAt s.watches i (some w) }
def State.withProfile (s : State) (i : Fin 8) (p : Profile) : State := { s with profiles := setAt s.profiles i (some p) }
def State.withContext (s : State) (k : Fin 4) (c : Context) : State := { s with contexts := setAt s.contexts k (some c) }
def State.withSegment (s : State) (g : Fin 64) (x : Segment) : State :=
  { s with ring := { s.ring with segs := setAt s.ring.segs g (some x) } }
def State.withQueue (s : State) (q : List Notice) : State := { s with notices := { s.notices with queue := q } }
def State.expecting (s : State) (n : Sweep) : State := { s with receiver := { s.receiver with expected := some n } }
def State.linked (s : State) (l : Link) (valid damaged : Nat) (seen : Bool) : State :=
  { s with port := { s.port with link := l, validCount := valid, damagedCount := damaged, downSeen := seen } }
def State.low (s : State) : State := { s with resetLow := true }

/-- All four contexts ACTIVE. -/
def busy : State :=
  { held with contexts := Vector.replicate 4 (some capture) }

/-- An arrival record without a gap. -/
def record (n : Sweep) (slots : List Sample) : Arrival := { number := n, gap := 0, mark := 0, slots := slots }

/-- The frame of this header word, a second word 0, this much padding and its CRC is valid. -/
def framed (w : Word) (n : Nat) : Bool := frameValid (withCrc ([w, 0] ++ List.replicate n 0x8000))

/-- The state of a next outcome. -/
def after (o : Host.Outcome State Fault Refusal) : State :=
  match o with
  | .next t => t
  | .fault _ => State.reset
  | .refused _ => State.reset

/-! ### Ill-formed commands -/

theorem test_damaged_frame_is_not_valid : (Instr.damagedFrame (withCrc [0x0000, 0])).wellFormed = false := by decide +kernel
theorem test_forwarded_frame_is_valid : (Instr.forwardFrame [0x8000, 0]).wellFormed = false := by decide +kernel
theorem test_consumed_frame_is_own : (Instr.consumeOwnFrame [0x0000, 0]).wellFormed = false := by decide +kernel
theorem test_sweep_has_its_count :
    (Instr.sweepArrival { dest := 63, src := 0 } 5 0 3 [1, 2]).wellFormed = false ∧
    (Instr.sweepArrival { dest := 63, src := 0 } 5 0 0 []).wellFormed = false ∧
    (Instr.sweepArrival { dest := 63, src := 0 } 5 0 2 [1, 2]).wellFormed = true := by decide +kernel
theorem test_offer_has_16_words : (Instr.idleOffer { dest := 0, src := 0 } 0 (List.replicate 12 0)).wellFormed = false := by
  decide +kernel
theorem test_event_within_264 : (Instr.eventArrival { dest := 63, src := 0 } 0 (List.replicate 262 0)).wellFormed = false := by
  decide +kernel
theorem test_four_events_wait : (Instr.eventExpiry 4).wellFormed = false := by decide +kernel
theorem test_reset_from_head : (Instr.loopReset { dest := 63, src := 1 } 0 []).wellFormed = false := by decide +kernel
theorem test_unknown_code : (Instr.unknownRequest (ask []) 32).wellFormed = false := by decide +kernel
theorem test_request_has_8_words : (Instr.status { ask [] with body := [0, 0, 0, 0] }).wellFormed = false := by decide +kernel
theorem test_request_within_264 : (Instr.arm { ask [] with body := List.replicate 262 0 }).wellFormed = false := by decide +kernel
theorem test_request_not_from_63 : (Instr.claim (from_ 63 [])).wellFormed = false := by decide +kernel
theorem test_clear_rows_name_their_scope :
    (Instr.clearTables (ask [6])).wellFormed = false ∧ (Instr.clearCaptures (ask [5])).wellFormed = false ∧
    (Instr.clearNotices (ask [3])).wellFormed = false := by decide +kernel
theorem test_option_rows : (Instr.readCounters (ask [1])).wellFormed = false ∧
    (Instr.readCountersClear (ask [0])).wellFormed = false ∧ (Instr.formatRing (ask [2, 64, 0, 1])).wellFormed = false ∧
    (Instr.formatRingForce (ask [2, 64, 0, 0])).wellFormed = false := by decide +kernel

/-! ### Worked examples of the manual -/

/-- 1.6, arrival 7: the fourth valid frame takes the link to UP, and the LINK notice is posted. -/
theorem test_link_recovers :
    let t := after (exec (.forwardFrame ([0, 0] ++ List.replicate 13 0x8000))
      (State.withQueue (State.linked up .hunt 3 0 true) []))
    t.port.link = .up ∧ t.port.validCount = 0 ∧ t.port.downSeen = false ∧
      t.notices.queue = [{ kind := .link, subject := 0, cls := .nothing, repeats := 1, sent := none }] := by decide +kernel

/-- R9: with two frames waiting behind the one in transmission, which has sent one word, neither of them leaves. -/
theorem test_waiting_frames_are_lost :
    let s := { up with port := { up.port with out := [.frame [9], .frame [1, 2, 3], .frame [4, 5, 6], .frame [7, 8, 9]] } }
    (after (exec (.resetnFall { waiting := 2, sent := some 1 }) s)).port.out = [.frame [9], .cutShort [1], .copyStarts] ∧
      (after (exec (.resetnFall { waiting := 3, sent := none }) s)).port.out = [.frame [9], .copyStarts] := by decide +kernel

/-- R190: a present word 2 of an absent precondition's window is refused. -/
theorem test_present_word_is_0_or_1 :
    readLoadWatch (([31] ++ plain.items).set 14 2) = .error 111 := by rfl

/-- 1.6, arrival 10: the pending mark 0008h rides on a SWEEP with mark word 0001h. -/
theorem test_mark_rides : (after (exec (.sweepArrival { dest := 63, src := 0 } 816 1 1 [0])
    { up with port := { up.port with markWord := 8 } })).port.out = [.frame (withCrc [0x1FC0, 816, 9, 1, 0])] := by decide +kernel

/-- 2.7: sweep 503 after 501 is a gap of 1; sweep 100 after 504 is a resync. -/
theorem test_gap_and_resync :
    let s := State.expecting { up with receiver := { up.receiver with historySet := [7, 2, 40] } } 502
    let t := after (exec (.sweepArrival { dest := 63, src := 0 } 503 0 8 [0, 0, -15, 0, 0, 0, 0, 1204]) s)
    let u := after (exec (.sweepArrival { dest := 63, src := 0 } 100 0 1 [0]) (State.expecting s 505))
    t.receiver.history = [{ kind := .missing, values := [0x8000, 0x8000, 0x8000] },
        { kind := .received, values := [1204, -15, 0x8000] }] ∧ t.counter .missedSweeps = 1 ∧
      u.receiver.expected = some 101 ∧ u.receiver.history.length = 1 ∧ u.counter .resyncs = 1 := by decide +kernel

/-- 4.9, sweeps 202 and 207: the rise is met; the precondition of the first is satisfied, that of the second is not. -/
theorem test_qualified_rise :
    let low : Watch := { watch .armed rising with runtime := { Runtime.fresh rising with latch := .low } }
    let at_ (f n : Sweep) (v : Sample) : State := after (exec
      (.sweepArrival { dest := 63, src := 0 } n 0 10 [0, 0, 0, 0, 0, 0, 0, 0, 0, v])
      (State.expecting (State.withWatch (State.withWatch (State.withProfile up 2 { gapProfile with pre := 0 }) 3 low) 1
        { watch .armed plain with runtime := { Runtime.fresh plain with lastFire := some f } }) n))
    ((at_ 201 202 150).watches[3]).map (fun w => (w.state, w.runtime.firesLeft, w.runtime.lastFire)) =
        some (.fired, some 1, some 202) ∧
      ((at_ 203 207 130).watches[3]).map (fun w => (w.state, w.runtime.latch, w.runtime.firesLeft)) =
        some (.armed, .high, some 2) := by decide +kernel

/-- 4.9, sweep 205: holdoff 1 less gap 1 and 1 is left at 0, and the watch is ARMED with the latch UNKNOWN. -/
theorem test_holdoff_ends :
    let w := { watch .holdoff rising with runtime := { Runtime.fresh rising with latch := .high, holdoffLeft := 1 } }
    (w.countHoldoff 1).state = .armed ∧ (w.countHoldoff 1).runtime.latch = .unknown := by decide +kernel

/-- 5.7: sweep 303 after a gap of 1 writes two rows, one of them a gap row, and the capture ends COMPLETE with 26 words. -/
theorem test_capture_with_gap :
    let s := State.expecting (State.withSegment (State.withContext (State.withWatch up 0 (watch .fired plain)) 0
      { capture with post := 2, nextDue := some 302, used := 22 }) 5 (segment (.filling 0))) 302
    let t := after (exec (.sweepArrival { dest := 63, src := 0 } 303 0 1 [0]) s)
    t.contexts[0] = none ∧ t.ring.completed = [5] ∧ (t.ring.segs[5]).map (fun x => (x.state, x.fill)) = some (.full, 26) ∧
      t.ring.mem.read (5 * 16384 + 4) = 1 ∧ (t.watches[0]).map Watch.state = some .armed := by decide +kernel

/-- 5.8: sixteen slots in segments of 64 words leave room for 5 pre rows. -/
theorem test_pre_rows_trimmed : preRoom 64 8 = 5 := by decide +kernel

/-- The ring of 6.7: with its three segments that are FULL or READING listed 2, 0, 1, none FREE. -/
def exhausted : State :=
  let s := { up with ring := { up.ring with segCount := 4, segSize := 65536, completed := [2, 0, 1] } }
  State.withSegment (State.withSegment (State.withSegment (State.withSegment s 0 (segment .full)) 1
    (segment .full)) 2 (segment .reading)) 3 (segment (.filling 0))

/-- 6.7, sweep 7100: the walk passes the READING segment 2 and reclaims segment 0. -/
theorem test_reclaim :
    (exhausted.allocate 1 58 { gapProfile with policy := .overwrite }).map
        (fun x => (x.1, x.2.ring.completed, x.2.ring.cursor, x.2.counter .capturesLost)) = some (0, [2, 1], 1, 1) ∧
      (exhausted.allocate 1 58 gapProfile).isNone = true := by decide +kernel

/-- 6.8: the second read serves 6 of 20 words, reaches the fill and releases the segment. -/
theorem test_read_releases :
    let s := { held with ring := { held.ring with completed := [5] } }
    let t := doReadSegment { origin := 4, room := 52, body := [5, 20, 0, 20, 0] }
      (State.withSegment s 5 { segment .reading with highWater := 20 })
    t.2.ring.segs[5] = none ∧ t.2.ring.completed = [] ∧ t.1.short = true ∧ t.1.body.take 4 = [0x8005, 20, 0, 6] := by
  decide +kernel

/-- 7.7, steps 1, 3 and 4: coalescing, an eviction, a drop. -/
theorem test_full_queue :
    let q := fullQueue (queued .captureDone 9)
    let s := State.withQueue up q
    ((s.post .watchFired 4 .watch).notices.queue[4]?).map Notice.repeats = some 2 ∧
      (s.post .watchRefused 20 .watch).notices.queue = q.dropLast ++ [queued .watchRefused 20] ∧
      (s.post .watchFired 31 .watch).notices.queue = q ∧ (s.post .watchFired 31 .watch).notices.overflow = true := by decide +kernel

/-- 7.7, steps 8 and 9: with NOTICE_LIMIT 3 an entry resent 3 times is removed, one resent once becomes due. -/
theorem test_resend_timers :
    let s := State.withQueue up [sentAs 43 false 3 0 21, sentAs 44 false 1 1 22]
    (after (exec (.resendTimerRunOut 43) s)).notices.queue = [sentAs 44 false 1 1 22] ∧
      (after (exec (.resendTimerRunOut 44) s)).notices.queue = [sentAs 43 false 3 0 21, sentAs 44 true 1 1 22] := by decide +kernel

/-- 8.9 at 30 µs: with four events waiting a fifth is dropped. -/
theorem test_fifth_event :
    let s := { up with
      params := { up.params with eventDelay := 200 }
      events := { up.events with waiting := List.replicate 4 { code := 2, ticks := 200 } } }
    let t := after (exec (.eventArrival { dest := 63, src := 0 } 5 []) s)
    t.events = s.events ∧ t.counter .eventsDropped = 1 ∧ (t.notices.queue.map Notice.kind) = [.restart, .eventDropped] := by
  decide +kernel

/-- 11.5, the row of sweep 301: slot 12 at 1199, slot 3 at -15, slot 40 absent. -/
theorem test_row_on_the_loop : packRow [1199, -15, 0x8000] = [0xFFF104AF, 0x80008000] := by decide +kernel

/-! ### The hypotheses of the statements are met

Each theorem is named for its statement. `∀ w ∈ o, …` of an entry `o` of a table is the statement's
`∀ w, o = some w → …`. -/

theorem meets_StepTakesFront :
    ({ up with pending := [.sendBreak, .lossOfSignal] } : State).pending = .sendBreak :: [.lossOfSignal] := rfl

theorem meets_IdleStepIsATick :
    held.pending = [] ∧ held.resetLow = false ∧ held.session.leaseTimer = some 50000000 ∧
    held.port.silence = some 1000 ∧ State.reset.pending = [] ∧ State.reset.resetLow = false ∧
    State.reset.session.leaseTimer = none ∧ (State.low up).pending = [] ∧ (State.low up).resetLow = true := by decide +kernel

/-- The body of LOAD WATCH 31 with the contents `plain`. -/
def loadPlain : Request := ask ([31] ++ plain.items)

theorem meets_WatchesLoadAndClear_range :
    held.permits (ask [32]) .loadWatch ∧ readLoadWatch (ask [32]).body = .error 10 :=
  ⟨by decide +kernel, by rfl⟩

theorem meets_WatchesLoadAndClear :
    held.permits loadPlain .loadWatch ∧ readLoadWatch loadPlain.body = .ok (31, plain) ∧
    held.watches[31] = none ∧
    (State.withWatch held 31 (watch .idle plain)).watches[31] = some (watch .idle plain) ∧
    (State.withWatch held 31 (watch .fired plain)).permits loadPlain .loadWatch ∧
    (State.withWatch held 31 (watch .fired plain)).watches[31] = some (watch .fired plain) ∧
    (watch .fired plain).state ≠ .idle ∧
    held.permits (ask [32]) .clearWatch ∧ 31 < (ask [32]).number 0 ∧
    held.permits (ask [31]) .clearWatch ∧ (ask [31]).number 0 = (31 : Fin 32).val ∧
    (∀ w ∈ held.watches[31], w.state ≠ .fired) ∧ (watch .fired plain).state = .fired := by
  refine ⟨by decide +kernel, by rfl, ?_⟩
  decide +kernel

theorem meets_GetWatchReports :
    held.admits (ask [32]) .getWatch ∧ 31 < (ask [32]).number 0 ∧ held.admits (ask [31]) .getWatch ∧
    (ask [31]).number 0 = (31 : Fin 32).val ∧ held.watches[31] = none ∧
    (State.withWatch held 31 (watch .idle plain)).watches[31] = some (watch .idle plain) ∧
    (watch .idle plain).state ≠ .fired ∧ (watch .fired plain).state = .fired ∧
    (State.withContext held 2 { capture with watchRef := some 31 }).contexts[2] = some { capture with watchRef := some 31 } ∧
    (∀ l : Fin 4, l < 2 → ∀ d ∈ (State.withContext held 2 { capture with watchRef := some 31 }).contexts[l],
      d.watchRef ≠ some 31) ∧
    (∀ (k : Fin 4), ∀ c ∈ held.contexts[k], c.openingWatch = 31 → c.watchRef = some 31) := by decide +kernel

theorem meets_ArmByState :
    held.permits (ask [32]) .arm ∧ 31 < (ask [32]).number 0 ∧ held.permits (ask [31]) .arm ∧
    (ask [31]).number 0 = (31 : Fin 32).val ∧ held.watches[31] = none ∧
    (∀ x ∈ [WatchState.idle, .armed, .fired, .holdoff, .spent],
      (State.withWatch held 31 (watch x rising)).watches[31] = some (watch x rising)) ∧
    rising.profile = some 2 ∧ held.profiles[2] = none ∧
    ((State.withProfile held 2 gapProfile).profiles[2]).isSome = true ∧ plain.profile = none := by decide +kernel

theorem meets_DisarmByState :
    held.permits (ask [32]) .disarm ∧ held.permits (ask [31]) .disarm ∧ (ask [31]).number 0 = (31 : Fin 32).val ∧
    held.watches[31] = none ∧
    (∀ x ∈ [WatchState.idle, .armed, .fired, .holdoff, .spent],
      (State.withWatch held 31 (watch x plain)).watches[31] = some (watch x plain)) := by decide +kernel

/-- No watch is loaded, and `fun _ => false` names those that change; with watch 31 of group 1 it is the one that does. -/
theorem meets_GroupWalks :
    held.permits (ask [15]) .armGroup ∧ held.permits (ask [15]) .disarmGroup ∧ (ask [15]).number 0 = 15 ∧
    (∀ i : Fin 32, held.watches[i] = none) ∧
    (∀ x ∈ [WatchState.spent, .fired], ∀ i : Fin 32, i = 31 ↔
      ∃ w ∈ (State.withWatch held 31 (watch x plain)).watches[i], (15 : Nat).testBit w.contents.group.val = true ∧
        (w.state = .idle ∨ w.state = x)) := by decide +kernel

/-- Watch 31 with the profile of 5.7, policy REFUSE, and no FREE segment. -/
def noSegment : State :=
  let s := State.withWatch (State.withProfile held 2 gapProfile) 31 (watch .armed { plain with profile := some 2 })
  { s with ring := { s.ring with segs := Vector.replicate 64 (some (segment .full)) } }

theorem meets_ForceFiresOrRefuses_lost :
    held.permits (ask [32]) .force ∧ 31 < (ask [32]).number 0 ∧ noSegment.permits (ask [31]) .force ∧
    noSegment.watches[31] = some (watch .armed { plain with profile := some 2 }) ∧ plain.notify = false ∧
    noSegment.profiles[2] = some gapProfile ∧ noSegment.contexts[3] = none ∧ noSegment.ring.segCount ≤ 64 ∧
    (∀ g : Fin 64, g.val < noSegment.ring.segCount → (noSegment.ring.segs[g]).isSome = true) ∧
    gapProfile.policy = .refuse := by decide +kernel

theorem meets_ForceFiresOrRefuses :
    held.permits (ask [31]) .force ∧ (ask [31]).number 0 = (31 : Fin 32).val ∧
    (State.withWatch held 31 (watch .armed plain)).watches[31] = some (watch .armed plain) ∧ plain.profile = none ∧
    (∀ w ∈ held.watches[31], w.state ≠ .armed) ∧
    (State.withWatch busy 31 (watch .armed rising)).permits (ask [31]) .force ∧
    (State.withWatch busy 31 (watch .armed rising)).watches[31] = some (watch .armed rising) ∧ rising.profile = some 2 ∧
    (∀ k : Fin 4, ((State.withWatch busy 31 (watch .armed rising)).contexts[k]).isSome = true) := by decide +kernel

theorem meets_SetHistoryReplaces_range :
    held.permits (ask [33]) .setHistory ∧ 32 < (ask [33]).number 0 ∧ held.permits (ask (2 :: packSlots [5, 5])) .setHistory ∧
    (ask (2 :: packSlots [5, 5])).body = 2 :: (packSlots [5, 5] ++ List.replicate 108 0x8000) ∧ ¬[5#8, 5].Nodup := by decide +kernel

theorem meets_SetHistoryReplaces :
    let r := ask (32 :: packSlots ((List.range 32).map (BitVec.ofNat 8)))
    held.permits r .setHistory ∧ ((List.range 32).map (BitVec.ofNat 8)).length = 32 ∧
    ((List.range 32).map (BitVec.ofNat 8)).Nodup ∧
    r.body = BitVec.ofNat 16 32 :: (packSlots ((List.range 32).map (BitVec.ofNat 8)) ++ List.replicate 93 0x8000) ∧
    (∀ i : Fin 8, ∀ p ∈ held.profiles[i], 0 < p.pre → ∀ x ∈ p.slots, x ∈ (List.range 32).map (BitVec.ofNat 8)) ∧
    (State.withProfile held 7 gapProfile).profiles[7] = some gapProfile ∧ 0 < gapProfile.pre ∧
    gapProfile.slots = [12, 3] ++ 40 :: [] ∧
    (∀ y ∈ [12, 3], y ∈ (List.range 32).map (BitVec.ofNat 8)) ∧ 40#8 ∉ (List.range 32).map (BitVec.ofNat 8) ∧
    (∀ j : Fin 8, j < 7 → (State.withProfile held 7 gapProfile).profiles[j] = none) := by decide +kernel

/-- The body of LOAD PROFILE 7 with the profile of 5.7. -/
def loadGap : Request := ask ([7] ++ gapProfile.items)

theorem meets_ProfilesLoadAndClear_range :
    held.permits (ask [8]) .loadProfile ∧ readLoadProfile (ask [8]).body = .error 10 :=
  ⟨by decide +kernel, by rfl⟩

theorem meets_ProfilesLoadAndClear :
    held.permits loadGap .loadProfile ∧ readLoadProfile loadGap.body = .ok (7, gapProfile) ∧
    (∀ x ∈ gapProfile.slots, x ∈ [3, 12, 40, 7]) ∧ 0 < gapProfile.pre ∧ gapProfile.slots = [] ++ 12 :: [3, 40] ∧
    12#8 ∉ held.receiver.historySet ∧
    held.permits (ask [8]) .clearProfile ∧ 7 < (ask [8]).number 0 ∧ held.permits (ask [7]) .clearProfile ∧
    (ask [7]).number 0 = (7 : Fin 8).val ∧ held.profiles[7] = none ∧
    (State.withProfile held 7 gapProfile).profiles[7] = some gapProfile ∧
    (∀ (k : Fin 32), ∀ w ∈ held.watches[k], w.contents.profile = some 7 → w.state = .idle ∨ w.state = .spent) ∧
    (State.withWatch held 31 (watch .armed { plain with profile := some 7 })).watches[31] =
      some (watch .armed { plain with profile := some 7 }) ∧
    (watch .armed plain).state.holds = true ∧
    (∀ j : Fin 32, j < 31 → (State.withWatch held 31 (watch .armed { plain with profile := some 7 })).watches[j] = none) := by
  refine ⟨by decide +kernel, by rfl, ?_⟩
  decide +kernel

theorem meets_GetProfileAndContextsReport :
    held.admits (ask [8]) .getProfile ∧ 7 < (ask [8]).number 0 ∧ held.admits (ask [7]) .getProfile ∧
    (ask [7]).number 0 = (7 : Fin 8).val ∧ held.profiles[7] = none ∧
    (State.withProfile held 7 gapProfile).profiles[7] = some gapProfile ∧ held.admits (ask []) .getContexts := by decide +kernel

theorem meets_CapturesEnd :
    held.permits (ask [4]) .abortCapture ∧ 3 < (ask [4]).number 0 ∧ held.permits (ask [3]) .abortCapture ∧
    (ask [3]).number 0 = (3 : Fin 4).val ∧ held.contexts[3] = none ∧
    (State.withContext held 3 capture).contexts[3] = some capture := by decide +kernel

/-- One frame in transmission with one more waiting; none in transmission; RESETn low. -/
theorem meets_ResetnLowCopies :
    up.resetLow = false ∧
    ({ up.port with out := [.copyEnds, .frame [1, 2, 3], .frame [4, 5]] } : Port).out =
      [.copyEnds] ++ .frame [1, 2, 3] :: [[4, 5]].map .frame ∧ 2 < [1#16, 2, 3].length ∧ ¬3 < [1#16, 2, 3].length ∧
    ({ up.port with out := [.copyEnds] } : Port).out = [.copyEnds] ++ ([] : List (List Word)).map .frame ∧
    (State.low up).resetLow = true ∧ frameOf (.damagedFrame [1]) = some [1] ∧ (State.low up).pending = [] := by decide +kernel

theorem meets_LinkStartsAndFails :
    State.reset.resetLow = false ∧ State.reset.port.link = .down ∧ (State.linked up .hunt 3 7 true).resetLow = false ∧
    (State.linked up .hunt 3 7 true).port.link = .hunt ∧ (State.linked up .hunt 3 7 true).port.silence.isSome = true := by
  decide +kernel

/-- Addressed with no capture and with one, and unaddressed. -/
theorem meets_DepartureBreaksSequence :
    up.resetLow = false ∧ up.port.link = .up ∧ up.port.silence.isSome = true ∧ up.addressed = true ∧
    (∀ k : Fin 4, up.contexts[k] = none) ∧ State.addressed { up with strap := 63 } = false ∧
    (State.withContext up 3 capture).addressed = true ∧ (State.withContext up 3 capture).contexts[3] = some capture ∧
    (∀ l : Fin 4, l ≠ 3 → (State.withContext up 3 capture).contexts[l] = none) := by decide +kernel

theorem meets_DamagedFrameReplaced :
    frameValid [] = false ∧ (State.linked up .hunt 3 7 true).receives ∧ (State.linked up .hunt 3 7 true).port.link = .hunt ∧
    (State.linked up .up 3 6 false).receives ∧ (State.linked up .up 3 6 false).port.damagedCount < 7 ∧
    (State.linked up .up 3 7 false).receives ∧ (State.linked up .up 3 7 false).port.damagedCount = 7 ∧
    (State.linked up .up 3 7 false).addressed = true ∧ (∀ k : Fin 4, up.contexts[k] = none) := by decide +kernel

/-- The eighth in a row with a capture in flight, and at an unaddressed node. -/
theorem meets_DamagedFrameReplaced_up :
    let s := State.linked (State.withContext up 3 capture) .up 3 7 false
    s.receives ∧ s.port.link = .up ∧ s.port.damagedCount = 7 ∧ s.addressed = true ∧ s.contexts[3] = some capture ∧
    (∀ l : Fin 4, l ≠ 3 → s.contexts[l] = none) ∧ State.addressed { s with strap := 63 } = false ∧
    State.receives { s with strap := 63 } := by decide +kernel

/-- Row 10 of R12 in each of its shapes: words 0 of another's REQUEST, EVENT, RESET, RESPONSE, NOTICE; a short IDLE; a BREAK. -/
theorem meets_ValidFrameForwarded :
    framed 0x2484 5 = true ∧ framed 0x5480 5 = true ∧ framed 0x6FC1 5 = true ∧ framed 0x6480 5 = true ∧
    framed 0x3012 5 = true ∧ framed 0x4012 13 = true ∧ framed 0x0000 12 = true ∧ framed 0x7000 5 = true ∧
    (State.linked up .hunt 2 0 true).port.validCount < 3 ∧ (State.linked up .hunt 2 0 true).port.link = .hunt ∧
    State.addressed { up with strap := 63 } = false ∧ up.port.link = .up ∧ up.addressed = true ∧ up.resetLow = false ∧
    kindOf [0x2484, 0] = some .request ∧ srcOf [0x2484, 0] ≠ 63 ∧ destOf [0x2484, 0] ≠ up.strap ∧
    kindOf [0x5480, 0] = some .event ∧ destOf [0x5480, 0] ≠ 63 ∧ destOf [0x5480, 0] ≠ up.strap ∧
    kindOf [0x6FC1, 0] = some .reset ∧ srcOf [0x6FC1, 0] ≠ 0 ∧ destOf [0x6480, 0] ≠ 63 ∧ destOf [0x6480, 0] ≠ up.strap ∧
    kindOf [0x3012, 0] = some .response ∧ srcOf [0x3012, 0] ≠ up.strap ∧ kindOf [0x4012, 0] = some .notice ∧
    kindOf [0x0000, 0] = some .idle ∧ kindOf [0x7000, 0] = some .brk ∧
    (State.linked up .hunt 3 0 true).port.validCount = 3 ∧ (State.linked up .hunt 3 0 true).port.downSeen = true ∧
    (State.linked up .hunt 3 0 false).port.downSeen = false ∧ (State.linked up .hunt 3 0 true).addressed = true := by decide +kernel

theorem meets_OwnFrameConsumed :
    up.hears ∧
    framed 0x3011 5 = true ∧ framed 0x247F 5 = true ∧ framed 0x4011 13 = true ∧
    kindOf [0x3011, 0] = some .response ∧ srcOf [0x3011, 0] = up.strap ∧ kindOf [0x4011, 0] = some .notice ∧
    srcOf [0x4011, 0] = up.strap ∧ kindOf [0x247F, 0] = some .request ∧ srcOf [0x247F, 0] = 63 := by decide +kernel

/-- A start, no gap, and the longest gap of 1023. -/
theorem meets_SweepWithoutFire :
    up.hears ∧ 1 ≤ [520#16].length ∧ (1#16).toNat % 512 = 1 ∧ (∀ k : Fin 4, up.contexts[k] = none) ∧
    up.receiver.expected = none ∧ (State.expecting up 205).receiver.expected = some 205 ∧
    ((205 : Sweep) - 205).toNat = 0 ∧ ((1228 : Sweep) - 205).toNat = 1023 ∧ (State.expecting up 205).hears ∧
    (∀ i : Fin 32, ∀ w ∈ (State.withWatch up 31 (watch .armed plain)).watches[i], w.state = .armed →
      (w.contents.onArrival w.runtime (record 205 [520])).1 = false) := by decide +kernel

/-- The jump of 1024, and the step back of one. -/
theorem meets_ResyncStartsAnew :
    (State.expecting up 205).hears ∧ (∀ k : Fin 4, (State.expecting up 205).contexts[k] = none) ∧
    (State.expecting up 205).receiver.expected = some 205 ∧ 1024 ≤ ((1229 : Sweep) - 205).toNat ∧
    1024 ≤ ((204 : Sweep) - 205).toNat ∧ 1 ≤ [520#16].length ∧ (1#16).toNat % 512 = 1 ∧
    (∀ i : Fin 32, ∀ w ∈ (State.withWatch up 31 (watch .armed plain)).watches[i], w.state = .armed →
      (w.contents.onArrival w.runtime.broken (record 1229 [520])).1 = false) := by decide +kernel

/-- With one capture in flight, and no watch loaded but one that is IDLE. -/
theorem meets_ResyncStartsAnew_capture :
    let s := State.expecting (State.withContext (State.withWatch up 31 (watch .idle plain)) 3 capture) 205
    s.hears ∧ s.contexts[3] = some capture ∧ (∀ l : Fin 4, l ≠ 3 → s.contexts[l] = none) ∧
    (∀ i : Fin 32, ∀ w ∈ (s.endCapture 3 .sequence).watches[i], w.state ≠ .armed) := by decide +kernel

theorem meets_LevelAndMarkRuns :
    (record 200 [0, 0, 0, 0, 0x8000]).slots.getD (4 : BitVec 8).toNat 0x8000 = 0x8000 ∧
    (record 200 [0, 0, 0, 0, 520]).slots.getD (4 : BitVec 8).toNat 0x8000 = 520 ∧ (520 : Sample) ≠ 0x8000 ∧
    (500 : Sample).toInt < (520 : Sample).toInt ∧ ¬(500 : Sample).toInt < (480 : Sample).toInt ∧
    { record 200 [] with mark := 1 }.mark &&& 1 ≠ 0 := by decide +kernel

theorem meets_EdgesAndSteps :
    (-100 : Sample).toInt < (100 : Sample).toInt ∧ (-100 : Sample).toInt ≤ (-100 : Sample).toInt ∧
    (100 : Sample).toInt ≤ (100 : Sample).toInt ∧ (-100 : Sample).toInt < (90 : Sample).toInt ∧
    (90 : Sample).toInt < (100 : Sample).toInt ∧ (record 200 [100]).slots.getD (0 : BitVec 8).toNat 0x8000 = 100 ∧
    (record 200 []).slots.getD (0 : BitVec 8).toNat 0x8000 = 0x8000 ∧ (Runtime.fresh rising).previous = none ∧
    ({ Runtime.fresh rising with previous := some 90 } : Runtime).previous = some 90 := by decide +kernel

theorem meets_EndStepAndHoldoff :
    0 < rising.holdoff ∧ plain.holdoff = 0 ∧ (Runtime.fresh plain).firesLeft ≠ some 0 ∧
    ({ Runtime.fresh plain with firesLeft := some 0 } : Runtime).firesLeft = some 0 ∧
    0 + 1 < ({ Runtime.fresh plain with holdoffLeft := 2 } : Runtime).holdoffLeft ∧
    ({ Runtime.fresh plain with holdoffLeft := 1 } : Runtime).holdoffLeft ≤ 0 + 1 := by decide +kernel

/-- Watch 3 with its latch LOW meets its rise on sweep 202; watch 1, IDLE, last fired on 201 or on 199. -/
def rises (f : Sweep) : State :=
  State.expecting (State.withWatch (State.withWatch up 3
    { watch .armed { rising with profile := none } with runtime := { Runtime.fresh rising with latch := .low } }) 1
    { watch .idle plain with runtime := { Runtime.fresh plain with lastFire := some f } }) 202

theorem meets_SweepFires :
    let w : Watch := { watch .armed { rising with profile := none } with
      runtime := { Runtime.fresh rising with latch := .low } }
    let v (f : Sweep) : Watch := { watch .idle plain with runtime := { Runtime.fresh plain with lastFire := some f } }
    let slots : List Sample := [0, 0, 0, 0, 0, 0, 0, 0, 0, 150]
    (rises 201).hears ∧ 1 ≤ slots.length ∧ slots.length ≤ 256 ∧ (10#16).toNat % 512 = slots.length ∧
    (∀ k : Fin 4, (rises 201).contexts[k] = none) ∧ (rises 201).receiver.expected = some 202 ∧
    (rises 201).watches[3] = some w ∧ w.state = .armed ∧ w.contents.profile = none ∧
    (∀ (j : Fin 32), ∀ v ∈ (rises 201).watches[j], j ≠ 3 → v.state ≠ .armed ∧ v.state ≠ .holdoff) ∧
    (w.contents.onArrival w.runtime (record 202 slots)).1 = true ∧
    w.contents.precondition = some { watch := 1, window := 3 } ∧ (1 : Fin 32) < 3 ∧
    (rises 200).watches[1] = some (v 200) ∧ (v 200).runtime.lastFire = some 200 ∧ ((202 : Sweep) - 200).toNat < 3 ∧
    (rises 199).watches[1] = some (v 199) ∧ (v 199).runtime.lastFire = some 199 ∧ ¬((202 : Sweep) - 199).toNat < 3 := by
  decide +kernel

/-- The same watch with an action profile, without a notice and with one, under a draw of 0 and of 1. -/
theorem meets_SweepFires_profile :
    let w : Watch := { watch .armed rising with runtime := { Runtime.fresh rising with latch := .low } }
    let s := State.withProfile (State.withWatch (rises 201) 3 w) 2 gapProfile
    let u := { s with script := [1] }
    s.hears ∧ (∀ k : Fin 4, s.contexts[k] = none) ∧ s.receiver.expected = some 202 ∧ s.watches[3] = some w ∧
    (∀ (j : Fin 32), ∀ v ∈ s.watches[j], j ≠ 3 → v.state ≠ .armed ∧ v.state ≠ .holdoff) ∧
    (w.contents.onArrival w.runtime (record 202 [0, 0, 0, 0, 0, 0, 0, 0, 0, 150])).1 = true ∧
    w.contents.profile = some 2 ∧ w.contents.notify = true ∧ { w.contents with notify := false }.notify = false ∧
    s.draw.1 % 2 = 0 ∧ u.draw.1 % 2 = 1 := by decide +kernel

/-- Watch 31 with the profile of 5.7, context 0 ACTIVE, segments 15 and 0 not FREE from the cursor 15 on. -/
def opens : State :=
  let s := State.expecting (State.withSegment (State.withSegment (State.withContext (State.withWatch (State.withProfile held 2
    gapProfile) 31 (watch .armed { plain with profile := some 2 })) 0 capture) 15 (segment .full)) 0 (segment .full)) 300
  { s with ring := { s.ring with cursor := 15 } }

theorem meets_ForceOpensCapture :
    opens.permits (ask [31]) .force ∧ (ask [31]).number 0 = (31 : Fin 32).val ∧
    opens.watches[31] = some (watch .armed { plain with profile := some 2 }) ∧ opens.profiles[2] = some gapProfile ∧
    gapProfile.pre * gapProfile.decimation ≤ 1024 ∧ opens.receiver.expected = some 300 ∧ opens.contexts[1] = none ∧
    Memory.wf opens.ring.mem ∧
    (∀ l : Fin 4, l < 1 → (opens.contexts[l]).isSome = true) ∧ opens.ring.segCount ≤ 64 ∧ 64 ≤ opens.ring.segSize ∧
    2 < opens.ring.segCount ∧ (1 : Fin 64).val = (opens.ring.cursor + 2) % opens.ring.segCount ∧
    opens.ring.segs[1] = none ∧
    (∀ y < 2, ∀ f : Fin 64, f.val = (opens.ring.cursor + y) % opens.ring.segCount → (opens.ring.segs[f]).isSome = true) := by
  decide +kernel

/-- The other clauses: a watch with a notice under a draw of 0 and of 1; an opening that is granted its segment, on an arrival
record and on none; an opening that finds no segment. -/
theorem meets_ForceOpensCapture_opening :
    let w := watch .armed { plain with profile := some 2, notify := true }
    let s := State.withWatch opens 31 w
    let a := record 300 [520]
    s.permits (ask [31]) .force ∧ s.watches[31] = some w ∧ s.draw.1 % 2 = 0 ∧
    (State.draw { s with script := [1] }).1 % 2 = 1 ∧
    (opens.allocate 1 (opens.captureSeq + 1) gapProfile).map Prod.fst = some 1 ∧
    gapProfile.slots.length ≤ 16 ∧ 1 ≤ gapProfile.decimation ∧ opens.receiver.expected = some 300 ∧
    (State.expecting opens 301).receiver.expected = some (a.number + 1) ∧
    ((State.expecting opens 301).allocate 1 (opens.captureSeq + 1) gapProfile).map Prod.fst = some 1 ∧
    (noSegment.allocate 0 (noSegment.captureSeq + 1) gapProfile).isNone = true := by decide +kernel

theorem meets_SweepRecordsRow :
    let s := State.expecting (State.withContext up 3 capture) 301
    s.hears ∧ s.receiver.expected = some 301 ∧ s.contexts[3] = some capture ∧
    (∀ l : Fin 4, l ≠ 3 → s.contexts[l] = none) ∧ capture.trigger = some 300 ∧
    (∀ (j : Fin 32), ∀ v ∈ s.watches[j], v.state ≠ .armed ∧ v.state ≠ .holdoff) ∧ 1 ≤ [520#16].length ∧
    (1#16).toNat % 512 = 1 ∧ capture.nextDue = some 301 ∧ { capture with nextDue := some 302 }.nextDue ≠ some 301 ∧
    s.ring.segSize < { capture with used := 16383 }.used + (gapProfile.slots.length + 1) / 2 ∧
    { capture with used := 16382 }.used + (gapProfile.slots.length + 1) / 2 ≤ s.ring.segSize ∧
    capture.post + 1 ≠ gapProfile.post ∧ { capture with post := 3 }.post + 1 = gapProfile.post := by decide +kernel

/-- The start of a sequence with an unknown trigger sweep, and the longest gap of 1023; each case of a covered sweep. -/
theorem meets_SweepRecordsRow_covered :
    let waiting := { capture with trigger := none, nextDue := none }
    let s := State.withContext up 3 waiting
    let u := State.expecting (State.withContext up 3 capture) 301
    s.hears ∧ s.receiver.expected = none ∧ s.contexts[3] = some waiting ∧ (∀ l : Fin 4, l ≠ 3 → s.contexts[l] = none) ∧
    (∀ (j : Fin 32), ∀ v ∈ s.watches[j], v.state ≠ .armed ∧ v.state ≠ .holdoff) ∧
    u.receiver.expected = some 301 ∧ ((1324 : Sweep) - 301).toNat = 1023 ∧ s.contexts[2] = none ∧
    waiting.nextDue ≠ some 301 ∧ u.contexts[3] = some capture ∧ capture.nextDue = some 301 ∧
    u.ring.segSize < { capture with used := 16383 }.used + (gapProfile.slots.length + 1) / 2 ∧
    capture.used + (gapProfile.slots.length + 1) / 2 ≤ u.ring.segSize := by decide +kernel

theorem meets_PostingsAreSettled :
    let q := fullQueue (queued .captureDone 9)
    q = (List.range 4).map (queued .watchFired) ++ queued .watchFired 4 ::
      ((List.range' 5 26).map (queued .watchFired) ++ [queued .captureDone 9]) ∧
    (∀ x ∈ (List.range 4).map (queued .watchFired), x.subject ≠ 4) ∧
    (∀ x ∈ q, x.kind ≠ .watchRefused) ∧ q.dropLast.length < 32 ∧ 32 ≤ q.length ∧
    q = q.dropLast ++ queued .captureDone 9 :: [] ∧ (∀ x ∈ q, NoticeKind.captureDone.priority ≤ x.kind.priority) ∧
    NoticeKind.captureDone.priority < NoticeKind.watchRefused.priority ∧ (∀ x ∈ q, x.subject ≠ 31) ∧
    NoticeKind.watchFired.priority ≤ NoticeKind.captureDone.priority := by decide +kernel

theorem meets_OfferSendsNotice :
    let q := [sentAs 43 false 0 0 21, sentAs 44 true 1 2 22, sentAs 45 true 1 3 23]
    let q' := [sentAs 255 false 0 0 21, queued .watchFired 1, queued .watchRefused 2]
    up.hears ∧ q = [sentAs 43 false 0 0 21] ++ sentAs 44 true 1 2 22 :: [sentAs 45 true 1 3 23] ∧
    (∀ m ∈ [sentAs 43 false 0 0 21], ∀ y ∈ m.sent, y.due = true → 2 < y.order) ∧
    (∀ m ∈ [sentAs 45 true 1 3 23], ∀ y ∈ m.sent, y.due = true → 2 ≤ y.order) ∧
    (∀ m ∈ q', ∀ y ∈ m.sent, y.due = false) ∧
    q' = [sentAs 255 false 0 0 21, queued .watchFired 1] ++ queued .watchRefused 2 :: [] ∧
    (q'.filter fun m => m.sent.isSome).length < 8 ∧
    (∀ m ∈ [sentAs 255 false 0 0 21, queued .watchFired 1], m.sent = none →
      m.kind.priority < NoticeKind.watchRefused.priority) ∧
    (∀ m ∈ q', ∀ y ∈ m.sent, y.number ≠ 0) ∧
    (∀ x : BitVec 8, (x - 255).toNat < ((0 : BitVec 8) - 255).toNat → ∃ m ∈ q', ∃ y ∈ m.sent, y.number = x) ∧
    8 ≤ ((List.range 8).map fun k => sentAs (BitVec.ofNat 8 k) false 0 k k).length ∧
    (∀ m ∈ [sentAs 43 false 0 0 21], m.sent ≠ none) := by decide +kernel

theorem meets_ResendRunsOut :
    up.resetLow = false ∧ (sentAs 44 false 2 1 22).sent =
      some { number := 44, resends := 2, timer := some 7, due := false, order := 1 } ∧
    2 < up.params.noticeLimit ∧ up.params.noticeLimit ≤ 3 ∧
    (∀ m ∈ [sentAs 43 false 0 0 21], ∀ y ∈ m.sent, y.number ≠ 44) := by decide +kernel

theorem meets_AckRemovesSent :
    let numbers : List (BitVec 8) := [40, 41, 42, 43, 44, 45, 46, 47]
    let r := from_ 0 (8 :: numbers.map (BitVec.setWidth 16))
    held.admits r .ackNotices ∧ r.src.toNat = held.params.noticeSink ∧
    r.body = BitVec.ofNat 16 numbers.length :: (numbers.map (BitVec.setWidth 16) ++ List.replicate 101 0x8000) ∧
    numbers.length ≤ 8 ∧ held.admits (from_ 0 [0]) .ackNotices ∧ (from_ 0 [0]).number 0 = 0 ∧ 8 < (from_ 0 [9]).number 0 ∧
    255 < (from_ 0 [1, 256]).number 1 := by decide +kernel

theorem meets_EventArrivalDisposed :
    let s := { up with params := { up.params with eventDelay := 1 } }
    up.hears ∧ s.hears ∧ s.strap = 17 ∧ (0x8005#16).getLsbD 15 = true ∧ up.params.eventDelay = 0 ∧
    (0x0005#16).getLsbD 15 = false ∧ s.params.eventDelay ≠ 0 ∧ s.events.waiting.length < 4 ∧
    4 ≤ (List.replicate 4 ({ code := 2, ticks := 1 } : WaitingEvent)).length := by decide +kernel

theorem meets_EventExpiryApplies :
    let e : WaitingEvent := { code := 15, ticks := 1 }
    let s := { State.withWatch up 31 (watch .spent plain) with
      events := { up.events with
        waiting := [e]
        table := setAt up.events.table 15 { EventEntry.powerOn with enable := true, arm := 2 } } }
    s.resetLow = false ∧ s.events.waiting = [] ++ e :: [] ∧ (s.events.table[e.code]).enable = true ∧
    (up.events.table[e.code]).enable = false ∧
    (∀ i : Fin 32, ∀ w ∈ ((s.disarmGroup 0).armGroup 2).watches[i], w.state = .armed → w.contents.condition ≠ .event 15) := by
  decide +kernel

/-- Watch 31 looks for code 15, whose entry is disabled, and has no precondition; or watch 1 is its precondition, which has
not fired. -/
theorem meets_EventExpiryApplies_fire :
    let e : WaitingEvent := { code := 15, ticks := 1 }
    let w (p : Option Precondition) : Watch :=
      watch .armed { plain with condition := .event 15, qualifier := 1, precondition := p }
    let s (p : Option Precondition) : State := { State.withWatch up 31 (w p) with
      events := { up.events with waiting := [e] } }
    let p : Precondition := { watch := 1, window := 3 }
    (s none).resetLow = false ∧ (s none).events.waiting = [] ++ e :: [] ∧
    ((s none).events.table[e.code]).enable = false ∧ (s none).watches[31] = some (w none) ∧
    (w none).contents.condition = .event 15 ∧ (w none).contents.profile = none ∧
    (w none).contents.precondition = none ∧
    (∀ j : Fin 32, ∀ v ∈ (s none).watches[j], v.state = .armed → j = 31) ∧
    (s (some p)).watches[31] = some (w (some p)) ∧ (s (some p)).watches[(1 : Fin 32)] = none ∧
    (∀ j : Fin 32, ∀ v ∈ (s (some p)).watches[j], v.state = .armed → j = 31) := by decide +kernel

/-- TIN0 HIGH for a tick after LOW, and a LINE watch on its rising edge. -/
def edgy : State :=
  let s := State.withWatch up 31 (watch .armed { plain with condition := .line .l0 .rising, qualifier := 1 })
  { s with lines := { s.lines with tin0 := { settled := .low, level := true, timer := some 1 } } }

theorem meets_TriggerLinesWork :
    edgy.resetLow = false ∧ edgy.lines.tin0.level = true ∧ up.lines.tin0.level ≠ true ∧
    { edgy.lines.tin0 with timer := none }.timer = none ∧ edgy.lines.tin0.timer.isSome = true ∧
    edgy.lines.tin0.settled = (if true then Settled.low else .high) ∧ up.lines.tin1.settled ≠ .low ∧
    edgy.watches[31] = some (watch .armed { plain with condition := .line .l0 .rising, qualifier := 1 }) ∧
    (∀ (j : Fin 32), ∀ v ∈ edgy.watches[j], v.state = .armed → v.contents.condition = .line .l0 .rising → j = 31) := by decide +kernel

theorem meets_LoopResetClears :
    up.hears ∧ (∀ k : Fin 4, up.contexts[k] = none) ∧ (List.replicate 261 0x8000#16).length ≤ 261 ∧ up.strap = 17 ∧
    (State.withContext up 3 capture).hears ∧ (State.withContext up 3 capture).contexts[3] = some capture ∧
    (∀ l : Fin 4, l ≠ 3 → (State.withContext up 3 capture).contexts[l] = none) := by decide +kernel

/-- A control request, an observe request, an ACK NOTICES and a TAKEOVER from origin 5; a frame of 8 words. -/
theorem meets_RefusedUnexecuted :
    let short : Request := { ask [] with body := List.replicate 5 0 }
    requestOf (.status short) = some (short, .status) ∧ held.reached short ∧ held.isNew short ∧
    short.room < RequestKind.status.fixedReply ∧ requestOf (.loadProfile short) = some (short, .loadProfile) ∧
    short.room < RequestKind.getProfile.fixedReply ∧ short.room < RequestKind.formatRing.fixedReply ∧
    held.session.holder = some short.src ∧
    held.reached (from_ 5 []) ∧ held.isNew (from_ 5 []) ∧ RequestKind.arm.fixedReply ≤ (from_ 5 []).room ∧
    held.session.holder ≠ some (from_ 5 []).src ∧ (from_ 5 []).src.toNat ≠ held.params.noticeSink ∧
    (from_ 5 []).src.toNat ≠ held.params.takeoverOrigin ∧ 32 < (33#8).toNat := by decide +kernel

theorem meets_ReplayAnswersFromCache :
    let r := { ask [] with seq := 1 }
    requestOf (.arm r) = some (r, .arm) ∧ RequestKind.arm.code = 10 ∧ held.reached r ∧
    held.session.origins = [] ++ { addr := 4, lastSeq := some 1, cached := some [0x3111, 0x0101, 0] } :: [] ∧ r.src = 4 ∧
    r.seq = 1 := by decide +kernel

/-- The eviction: four other origins, the least recently used of which holds the lease. -/
theorem meets_ReplayAnswersFromCache_eviction :
    let o (a : Addr) : Origin := { addr := a, lastSeq := none, cached := none }
    [o 1, o 2, o 3, o 4] = [o 1, o 2] ++ o 3 :: [o 4] ∧ (∀ x ∈ [o 1, o 2, o 3, o 4], x.addr ≠ 5) ∧
    (some 4 : Option Addr) ≠ some (o 3).addr ∧ (∀ x ∈ [o 4], some 4 = some x.addr) ∧
    [o 1, o 2, o 3].length < 4 ∧ 4 ≤ [o 1, o 2, o 3, o 4].length := by decide +kernel

theorem meets_StatusReports : held.admits (from_ 0 []) .status ∧ RequestKind.status.fixedReply ≤ 113 := by decide +kernel

theorem meets_ParamsReadAndWritten :
    held.admits (ask [6]) .getParam ∧ (ask [6]).number 0 = Param.takeoverOrigin.code ∧ (ask [65535]).number 0 = 65535 ∧
    6 < (ask [7]).number 0 ∧ held.permits (ask [7]) .setParam ∧
    held.permits (ask [3, 1, 65535]) .setParam ∧ (ask [3, 1, 65535]).number 0 = Param.leaseTime.code ∧
    (ask [3, 1, 65535]).number 1 = 1 ∧ (ask [3, 1, 65535]).number 2 = 65535 ∧ 65535 ≤ Param.leaseTime.range.2 ∧
    (ask [3, 1, 0]).number 2 < Param.leaseTime.range.1 ∧ (ask [5, 63]).number 0 = Param.ringLow.code ∧
    (ask [5, 63]).number 1 ≤ Param.ringLow.range.2 ∧ (ask [0, 62]).number 1 ≤ Param.noticeSink.range.2 ∧
    (ask [0, 62]).number 1 ≠ held.params.noticeSink ∧ (ask [0, 0]).number 1 = held.params.noticeSink := by decide +kernel

theorem meets_SinkChangeMerges : ∀ n ∈ [sentAs 43 false 0 0 1, { queued .watchFired 1 with repeats := 255 }],
    n.repeats ≤ 255 := by decide +kernel

theorem meets_CountersReadAndCleared :
    held.admits (from_ 9 [0]) .readCounters ∧ (from_ 9 [0]).number 0 % 256 = 0 ∧ held.permits (ask [1]) .readCounters ∧
    (ask [1]).number 0 % 256 = 1 ∧ 1 < (ask [2]).number 0 % 256 := by decide +kernel

theorem meets_ClearTakesScopes :
    held.permits (ask [7]) .clear ∧ (∀ k : Fin 4, held.contexts[k] = none) ∧ (ask [7]).number 0 = 7 ∧
    (State.withContext held 3 capture).permits (ask [1]) .clear ∧ ((ask [1]).number 0).testBit 0 = true ∧
    (State.withContext held 3 capture).permits (ask [4]) .clear ∧ ((ask [4]).number 0).testBit 0 = false ∧
    ((ask [4]).number 0).testBit 1 = false ∧ (State.withContext held 3 capture).contexts[3] = some capture ∧
    (∀ l : Fin 4, l ≠ 3 → (State.withContext held 3 capture).contexts[l] = none) := by decide +kernel

theorem meets_FormatRingSets :
    held.permits (ask [1, 64, 0]) .formatRing ∧ held.permits (ask [65, 64, 0]) .formatRing ∧
    held.permits (ask [2, 0, 2]) .formatRing ∧ (ask [65, 64, 0]).number 0 = 65 ∧
    (ask [2, 0, 2]).number 1 + 65536 * (ask [2, 0, 2]).number 2 = 131072 ∧ 2 * 131072 ≤ 262144 ∧
    262144 < 3 * 131072 ∧ ((ask [2, 0, 2, 0]).number 3).testBit 0 = false ∧
    (∀ g : Fin 64, g.val < held.ring.segCount → held.ring.segs[g] = none) ∧
    (State.withSegment held 15 (segment .full)).ring.segs[(15 : Fin 64)] ≠ none ∧
    ((ask [2, 0, 2, 1]).number 3).testBit 0 = true ∧
    (∀ (i : Fin 32), i = 0 ↔ ∃ k : Fin 4, ∃ c ∈ (State.withContext held 3 capture).contexts[k], c.watchRef = some i) ∧
    (∀ k l : Fin 4, ∀ c ∈ (State.withContext held 3 capture).contexts[k], ∀ d ∈ (State.withContext held 3 capture).contexts[l],
      c.watchRef.isSome → c.watchRef = d.watchRef → k = l) := by decide +kernel

theorem meets_ReadSegmentServes :
    (∀ r ∈ [ask [16, 0, 0, 1], ask [15, 0, 0, 1], ask [15, 0xFFFF, 1, 120], ask [15, 0, 0, 0], ask [15, 0, 0, 121],
        ask [15, 0, 2, 1]], held.permits r .readSegment) ∧
    held.ring.segCount ≤ (ask [16, 0, 0, 1]).number 0 ∧
    131071 < (ask [15, 0, 2, 1]).number 1 + 65536 * (ask [15, 0, 2, 1]).number 2 ∧
    (ask [15, 0xFFFF, 1, 120]).number 1 + 65536 * (ask [15, 0xFFFF, 1, 120]).number 2 = 131071 ∧
    held.ring.segs[(15 : Fin 64)] = none ∧ (segment .full).fill ≤ 26 ∧ 25 < (segment .full).fill ∧
    (State.withSegment held 15 (segment .full)).ring.segs[(15 : Fin 64)] = some (segment .full) := by decide +kernel

theorem meets_ReleaseSegmentFrees :
    held.permits (ask [16]) .releaseSegment ∧ held.ring.segCount ≤ (ask [16]).number 0 ∧
    held.permits (ask [15]) .releaseSegment ∧ (ask [15]).number 0 = (15 : Fin 64).val ∧ held.ring.segs[(15 : Fin 64)] = none ∧
    (∀ x ∈ [SegmentState.filling 3, .full, .reading],
      (State.withSegment held 15 (segment x)).ring.segs[(15 : Fin 64)] = some (segment x)) ∧
    (SegmentState.filling 3).isFilling = true ∧ SegmentState.reading.isFilling = false := by decide +kernel

theorem meets_RingAllocatesAndTests :
    (2 < opens.ring.segCount ∧ (1 : Fin 64).val = (opens.ring.cursor + 2) % opens.ring.segCount ∧
      opens.ring.segs[(1 : Fin 64)] = none ∧
      (∀ y < 2, ∀ f : Fin 64, f.val = (opens.ring.cursor + y) % opens.ring.segCount →
        (opens.ring.segs[f]).isSome = true)) ∧
    (∀ g : Fin 64, g.val < exhausted.ring.segCount → (exhausted.ring.segs[g]).isSome = true) ∧
    exhausted.ring.completed = [2] ++ 0 :: [1] ∧ exhausted.ring.segs[(0 : Fin 64)] = some (segment .full) ∧
    (∀ f ∈ [2], ∀ x ∈ exhausted.ring.segs[(f : Fin 64)], x.state ≠ .full) ∧ gapProfile.policy = .refuse ∧
    let free (s : State) := (List.finRange 64).countP fun g => decide (g.val < s.ring.segCount) && (s.ring.segs[g]).isNone
    let two := { up with ring := { up.ring with segCount := 2 } }
    free two ≤ two.params.ringLow ∧ two.ring.low = false ∧ { two.ring with low := true }.low = true ∧
    up.params.ringLow < free up := by decide +kernel

/-- The record of 5.7 in the last segment, with its header in capture memory. -/
def recorded : State :=
  let s := State.withSegment held 15 (segment .full)
  { s with ring := { s.ring with
      mem := Memory.writeAll [] (15 * 16384) (capture.header .complete 0)
      completed := [15] } }

theorem meets_SegmentInfoAndScanReport_range :
    held.admits (ask [16]) .segmentInfo ∧ held.ring.segCount ≤ (ask [16]).number 0 ∧ held.admits (ask [15]) .segmentInfo ∧
    held.ring.segs[(15 : Fin 64)] = none ∧ held.admits (ask [16]) .scan ∧ (ask [16]).number 0 ≠ 65535 ∧
    held.ring.completed = [] ∧ (ask [15]).number 0 < held.ring.segCount := by decide +kernel

theorem meets_SegmentInfoAndScanReport :
    recorded.ring.segCount ≤ 64 ∧ recorded.ring.segs[(15 : Fin 64)] = some (segment .full) ∧
    (∀ n < 12, recorded.ring.mem.read ((15 : Fin 64).val * recorded.ring.segSize + n) =
      (capture.header .complete 0).getD n 0) ∧
    capture.snapshot.slots.length ≤ 16 ∧ capture.snapshot.decimation ≤ 256 ∧ capture.pre ≤ 1024 ∧ capture.post ≤ 65535 ∧
    recorded.admits (ask [15]) .segmentInfo ∧ (ask [15]).number 0 = (15 : Fin 64).val ∧
    recorded.ring.completed = [] ++ 15 :: [] ∧ (15 : Fin 64) ∉ held.ring.completed ∧
    recorded.admits (ask [65535]) .scan ∧ (ask [65535]).number 0 = 65535 ∧ (3 : Fin 64) ∉ recorded.ring.completed ∧
    (segment .full).state.isFilling = false ∧ (3 : Fin 64) ∉ ([] : List (Fin 64)) := by decide +kernel

theorem meets_EventRequests :
    held.permits (ask [15, 1, 15, 15, 1, 3]) .setEventEntry ∧ (ask [15, 1, 15, 15, 1, 3]).number 0 = (15 : Fin 16).val ∧
    ¬15 < (ask [15, 1, 15, 15, 1, 3]).number 2 ∧ ¬15 < (ask [15, 1, 15, 15, 1, 3]).number 3 ∧
    ¬1 < (ask [15, 1, 15, 15, 1, 3]).number 1 % 256 ∧ ¬1 < (ask [15, 1, 15, 15, 1, 3]).number 4 % 256 ∧
    ¬3 < (ask [15, 1, 15, 15, 1, 3]).number 5 ∧ 15 < (ask [16]).number 0 ∧ 3 < (ask [15, 1, 15, 15, 1, 4]).number 5 ∧
    held.admits (ask [16]) .getEventEntry ∧ held.admits (ask [15]) .getEventEntry ∧ held.permits (ask [1, 2, 3]) .setTime := by
  decide +kernel

theorem meets_LeaseIsGiven :
    up.admits (from_ 4 []) .claim ∧ up.session.holder = none ∧ held.admits (ask []) .claim ∧
    held.session.holder = some (ask []).src ∧ held.admits (from_ 5 []) .claim ∧ (4 : Addr) ≠ (from_ 5 []).src ∧
    held.admits (from_ 0 []) .takeover ∧ (from_ 0 []).src.toNat = held.params.takeoverOrigin ∧
    (4 : Addr) ≠ (from_ 0 []).src := by decide +kernel

theorem meets_RenewRestarts :
    held.admits (ask []) .renew ∧ held.session.holder = some (ask []).src ∧ held.admits (from_ 5 []) .renew ∧
    held.session.holder ≠ some (from_ 5 []).src := by decide +kernel

theorem meets_LeaseIsGivenUp :
    held.admits (ask []) .yield ∧ held.session.holder = some (ask []).src ∧ held.admits (from_ 5 []) .yield ∧
    held.session.holder ≠ some (from_ 5 []).src ∧ held.resetLow = false := by decide +kernel

/-! ### A state that keeps every invariant -/

/-- Watch 0 FIRED with its capture in context 0, a READING segment, a SENT notice, a history, and an origin that holds the
lease. -/
def whole : State :=
  let s := State.withSegment (State.withSegment (State.withContext (State.withProfile (State.withWatch held 0
    (watch .fired { plain with profile := some 1 })) 1 gapProfile) 0 capture) 5
    { segment (.filling 0) with fill := 20 }) 6 (segment .reading)
  { s with
    ring := { s.ring with completed := [6], cursor := 7 }
    receiver :=
      { expected := some 301, historySet := [3, 12, 40, 7]
        history := [{ kind := .received, values := [-15, 1199, 0x8000, 0] }] }
    notices := { s.notices with queue := [sentAs 43 false 0 0 1, queued .watchFired 1] } }

theorem meets_NoticeQueueStaysWithin :
    whole.NoticeInv ∧ whole.QueuedDistinct ∧ whole.NumbersDistinct ∧ step whole = .next whole.tick :=
  ⟨⟨by decide +kernel, by decide +kernel⟩, by decide +kernel, by decide +kernel, rfl⟩

theorem meets_SessionStaysWhole : whole.SessionInv ∧ whole.ReadingInv ∧ step whole = .next whole.tick := by
  refine ⟨⟨by decide +kernel, by decide +kernel, by decide +kernel, by decide +kernel, ?_⟩, ?_, rfl⟩
  · have h : ∀ e ∈ whole.session.origins, ∀ l ∈ e.cached, 3 ≤ l.length ∧ kindOf l = some .response := by decide +kernel
    exact fun e l he hl => h e he l hl
  · exact fun h => absurd h (by decide +kernel)

theorem whole_ringInv : whole.RingInv where
  count := by decide +kernel
  owned := by
    show ∀ k : Fin 4, ∀ c ∈ whole.contexts[k], ∃ x ∈ whole.ring.segs[c.segment], x.state = .filling k
    decide +kernel
  owner := by
    have h : ∀ g : Fin 64, ∀ x ∈ whole.ring.segs[g], ∀ k : Fin 4, x.state = .filling k →
        ∃ c ∈ whole.contexts[k], c.segment = g := by decide +kernel
    exact fun g x k hx hk => h g x hx k hk
  listed := by
    show ∀ g : Fin 64, g ∈ whole.ring.completed ↔ ∃ x ∈ whole.ring.segs[g], x.state.isFilling = false
    decide +kernel
  once := by decide +kernel
  outside := by decide +kernel

theorem whole_formatInv : whole.FormatInv :=
  ⟨by decide +kernel, by decide +kernel, by decide +kernel, by decide +kernel⟩

theorem whole_profileInv : whole.ProfileInv := by
  have h : ∀ i : Fin 8, ∀ p ∈ whole.profiles[i],
      1 ≤ p.slots.length ∧ p.slots.length ≤ 16 ∧ p.slots.Nodup ∧ 1 ≤ p.decimation ∧ p.decimation ≤ 256 ∧ 1 ≤ p.post ∧
        p.post ≤ 65535 ∧ p.pre * p.decimation ≤ 1024 ∧ (0 < p.pre → ∀ x ∈ p.slots, x ∈ whole.receiver.historySet) := by
    decide +kernel
  exact fun i p hp => h i p hp

theorem meets_RingStaysWhole : whole.RingInv ∧ whole.FormatInv ∧ step whole = .next whole.tick :=
  ⟨whole_ringInv, whole_formatInv, rfl⟩

theorem meets_FiredWatchesStayReferred : whole.ReferenceInv ∧ whole.LoadedInv ∧ step whole = .next whole.tick := by
  refine ⟨⟨?_, ?_, ?_⟩, ?_, rfl⟩
  · show ∀ i : Fin 32, ∀ w ∈ whole.watches[i], w.state = .fired ↔ ∃ k : Fin 4, ∃ c ∈ whole.contexts[k], c.watchRef = some i
    decide +kernel
  · have h : ∀ k : Fin 4, ∀ c ∈ whole.contexts[k], ∀ i ∈ c.watchRef, (whole.watches[i]).isSome = true := by decide +kernel
    exact fun k c i hc hi => h k c hc i hi
  · have h : ∀ k l : Fin 4, ∀ c ∈ whole.contexts[k], ∀ d ∈ whole.contexts[l], ∀ i ∈ c.watchRef,
        d.watchRef = some i → k = l := by decide +kernel
    exact fun k l c d i hc hd hi hj => h k l c hc d hd i hi hj
  · have h : ∀ i : Fin 32, ∀ w ∈ whole.watches[i], ∀ p ∈ w.contents.profile, w.state.holds = true →
        (whole.profiles[p]).isSome = true := by decide +kernel
    exact fun i w p hw hp => h i w hw p hp

theorem meets_FillStaysWithin :
    whole.FillInv ∧ whole.RingInv ∧ whole.FormatInv ∧ whole.ProfileInv ∧ step whole = .next whole.tick := by
  refine ⟨⟨?_, ?_⟩, whole_ringInv, whole_formatInv, whole_profileInv, rfl⟩
  · have h : ∀ g : Fin 64, ∀ x ∈ whole.ring.segs[g],
        Config.headerWords ≤ x.fill ∧ x.fill ≤ whole.ring.segSize ∧ x.highWater ≤ x.fill := by decide +kernel
    exact fun g x hx => h g x hx
  · have h : ∀ k : Fin 4, ∀ c ∈ whole.contexts[k], ∀ x ∈ whole.ring.segs[c.segment], x.fill = c.used := by decide +kernel
    exact fun k c x hc hx => h k c hc x hx

theorem whole_receiverInv : whole.ReceiverInv :=
  ⟨by decide +kernel, by decide +kernel, by decide +kernel, by decide +kernel, by decide +kernel⟩

theorem meets_StoresStayWithin :
    whole.PortInv ∧ whole.ReceiverInv ∧ whole.ProfileInv ∧ whole.ParamInv ∧ Memory.wf recorded.ring.mem ∧
      step whole = .next whole.tick := by
  refine ⟨⟨by decide +kernel, by decide +kernel, by decide +kernel⟩, whole_receiverInv, whole_profileInv, ?_,
    by decide +kernel, rfl⟩
  intro x
  cases x <;> decide +kernel

/-- An IDLE that carries a frame, a command that carries none, and a SEND_BREAK in UP. -/
theorem meets_FramesAreConserved :
    whole.resetLow = false ∧ (∃ t, exec (.damagedFrame [1]) whole = .next t) ∧ frameOf (.damagedFrame [1]) = some [1] ∧
    whole.port.link ≠ .down ∧ whole.ReceiverInv ∧ whole.ProfileInv ∧ whole.SessionInv ∧ frameOf .leaseExpiry = none :=
  ⟨by decide +kernel, ⟨_, rfl⟩, rfl, by decide +kernel, whole_receiverInv, whole_profileInv, meets_SessionStaysWhole.1, rfl⟩

/-- The second and the third clause of STATUS. -/
theorem meets_StatusReports_ring : whole.admits (from_ 0 []) .status ∧ whole.RingInv :=
  ⟨by decide +kernel, whole_ringInv⟩

theorem meets_ContentsReadBack :
    rising.condition = .rise 9 (-100) 100 ∧ (-100 : Sample) ≠ 0x8000 ∧ (100 : Sample) ≠ 0x8000 ∧
    (-100 : Sample).toInt < (100 : Sample).toInt ∧ rising.qualifier = 1 ∧
    (∀ p ∈ rising.precondition, p.watch < 3 ∧ 1 ≤ p.window ∧ p.window ≤ 65535) ∧
    (∀ n ∈ rising.budget, 1 ≤ n ∧ n ≤ 255) ∧ rising.holdoff ≤ 65535 ∧
    1 ≤ gapProfile.slots.length ∧ gapProfile.slots.length ≤ 16 ∧ gapProfile.slots.Nodup ∧ gapProfile.pre ≤ 1024 ∧
    1 ≤ gapProfile.post ∧ gapProfile.decimation ≤ 256 ∧ gapProfile.pre * gapProfile.decimation ≤ 1024 := by decide +kernel

/-- Bodies that break the first check and the last one, and one that is too short. -/
theorem meets_ContentsReadBack_refused :
    let watchBody := [31] ++ plain.items
    let profileBody := [7] ++ gapProfile.items
    24 ≤ watchBody.length ∧ 31 < ((watchBody.set 0 32).getD 0 0).toNat ∧ 1 < ((watchBody.set 23 2).getD 23 0).toNat % 256 ∧
    (watchBody.take 23).length < 24 ∧ 2 + (3 + 1) / 2 + 7 ≤ profileBody.length ∧ (profileBody.getD 1 0).toNat = 3 ∧
    7 < ((profileBody.set 0 8).getD 0 0).toNat ∧ 1 < ((profileBody.set 10 2).getD 10 0).toNat % 256 ∧
    (profileBody.take 10).length < 2 + (3 + 1) / 2 + 7 := by decide +kernel

end Sys2Proof.Tests
end

section
/-! Watch evaluation on an arrival record: what one sample does to the runtime of each kind of source (R56 to R61), and
the two statements about the sources that read arrival records. -/

namespace Sys2Proof.Machine

/-! ### One rule per kind of sample -/

section Samples

variable (r : Runtime) (lo hi v : Sample)

/-- R56: an absent sample is not evaluated. -/
@[simp] theorem Runtime.onSample_absent (f : Sample → Bool × Runtime) : r.onSample absentCode f = (false, r) :=
  if_pos rfl

theorem Runtime.onSample_present {v : Sample} (hv : v ≠ absentCode) (f : Sample → Bool × Runtime) :
    r.onSample v f = f v :=
  if_neg hv

/-- R57: after a satisfied sample the count is one up, stopping at the qualifier, and is tested against it. -/
@[simp] theorem Runtime.countRun_true (q : Nat) :
    r.countRun q true = (decide (min (r.run + 1) q = q), { r with run := min (r.run + 1) q }) := rfl

@[simp] theorem Runtime.countRun_false (q : Nat) : r.countRun q false = (false, { r with run := 0 }) := rfl

variable {lo hi v}

/-- R59, first row. -/
theorem Runtime.onRise_of_le_lo (h : v.toInt ≤ lo.toInt) : r.onRise lo hi v = (false, { r with latch := .low }) :=
  if_pos h

/-- R59, second row. -/
theorem Runtime.onRise_of_between (hlo : lo.toInt < v.toInt) (hhi : v.toInt < hi.toInt) :
    r.onRise lo hi v = (false, r) := by
  rw [Runtime.onRise, if_neg hlo.not_ge, if_neg hhi.not_ge]

/-- R59, the last three rows: a sample at or above `hi` is above `lo`. -/
theorem Runtime.onRise_of_hi_le (hlh : lo.toInt < hi.toInt) (h : hi.toInt ≤ v.toInt) :
    r.onRise lo hi v = (decide (r.latch = .low), { r with latch := .high }) := by
  rw [Runtime.onRise, if_neg (hlh.trans_le h).not_ge, if_pos h]
  rfl

/-- R60, first row. -/
theorem Runtime.onFall_of_hi_le (h : hi.toInt ≤ v.toInt) : r.onFall lo hi v = (false, { r with latch := .high }) :=
  if_pos h

/-- R60, second row. -/
theorem Runtime.onFall_of_between (hlo : lo.toInt < v.toInt) (hhi : v.toInt < hi.toInt) :
    r.onFall lo hi v = (false, r) := by
  rw [Runtime.onFall, if_neg hhi.not_ge, if_neg hlo.not_ge]

/-- R60, the last three rows: a sample at or below `lo` is below `hi`. -/
theorem Runtime.onFall_of_le_lo (hlh : lo.toInt < hi.toInt) (h : v.toInt ≤ lo.toInt) :
    r.onFall lo hi v = (decide (r.latch = .high), { r with latch := .low }) := by
  rw [Runtime.onFall, if_neg (h.trans_lt hlh).not_ge, if_pos h]
  rfl

/-- R61: the first present sample is only kept. -/
theorem Runtime.onStep_of_none (n : Nat) (h : r.previous = none) :
    r.onStep n v = (false, { r with previous := some v }) := by
  rw [Runtime.onStep, h]

/-- R61: a later present sample is compared with the one before it, and kept. -/
theorem Runtime.onStep_of_some (n : Nat) {u : Sample} (h : r.previous = some u) :
    r.onStep n v = (decide (n ≤ (v.toInt - u.toInt).natAbs), { r with previous := some v }) := by
  rw [Runtime.onStep, h]

end Samples

/-! ### The rule that each source applies to its sample -/

section Sources

variable (c : Contents) (r : Runtime) (a : Arrival) (slot : BitVec 8) (lo hi : Sample)

theorem Contents.onArrival_rise :
    { c with condition := .rise slot lo hi }.onArrival r a = r.onSample (a.sample slot) (r.onRise lo hi) := rfl

theorem Contents.onArrival_fall :
    { c with condition := .fall slot lo hi }.onArrival r a = r.onSample (a.sample slot) (r.onFall lo hi) := rfl

theorem Contents.onArrival_step (n : Nat) :
    { c with condition := .step slot n }.onArrival r a = r.onSample (a.sample slot) (r.onStep n) := rfl

theorem Contents.onArrival_mark (mask : Word) :
    { c with condition := .mark mask }.onArrival r a = r.countRun c.qualifier (a.mark &&& mask != 0) := rfl

/-- The table of R57: each LEVEL comparison, and when it is satisfied by the sample `v`. -/
def levelComparisons (v : Sample) : List (Condition × Prop) :=
  [(.above slot hi, hi.toInt < v.toInt), (.below slot lo, v.toInt < lo.toInt),
   (.inside slot lo hi, lo.toInt ≤ v.toInt ∧ v.toInt ≤ hi.toInt),
   (.outside slot lo hi, v.toInt < lo.toInt ∨ hi.toInt < v.toInt)]

/-- Every LEVEL comparison counts its run by its own row of the table. -/
theorem Contents.onArrival_level {x : Condition × Prop} (hx : x ∈ levelComparisons slot lo hi (a.sample slot)) :
    ∃ satisfied : Sample → Bool, (satisfied (a.sample slot) = true ↔ x.2) ∧
      { c with condition := x.1 }.onArrival r a =
        r.onSample (a.sample slot) fun v => r.countRun c.qualifier (satisfied v) := by
  simp only [levelComparisons, List.mem_cons, List.not_mem_nil, or_false] at hx
  obtain rfl | rfl | rfl | rfl := hx
  · exact ⟨fun v => decide (hi.toInt < v.toInt), decide_eq_true_iff, rfl⟩
  · exact ⟨fun v => decide (v.toInt < lo.toInt), decide_eq_true_iff, rfl⟩
  · exact ⟨fun v => decide (lo.toInt ≤ v.toInt ∧ v.toInt ≤ hi.toInt), decide_eq_true_iff, rfl⟩
  · exact ⟨fun v => decide (v.toInt < lo.toInt ∨ hi.toInt < v.toInt), decide_eq_true_iff, rfl⟩

/-- No LEVEL comparison is the condition of a MARK watch. -/
theorem fst_ne_mark_of_mem_levelComparisons {v : Sample} {x : Condition × Prop} (hx : x ∈ levelComparisons slot lo hi v)
    (mask : Word) : x.1 ≠ .mark mask := by
  simp only [levelComparisons, List.mem_cons, List.not_mem_nil, or_false] at hx
  obtain rfl | rfl | rfl | rfl := hx <;> exact Condition.noConfusion

/-- R57 and R58: what the count of a run gives, by whether its sample is satisfied. -/
theorem Runtime.countRun_cases (q : Nat) {satisfied : Bool} {P : Prop} (h : satisfied = true ↔ P) :
    (P → r.countRun q satisfied = (decide (min (r.run + 1) q = q), { r with run := min (r.run + 1) q })) ∧
    (¬P → r.countRun q satisfied = (false, { r with run := 0 })) := by
  cases satisfied with
  | true => exact ⟨fun _ => r.countRun_true q, fun hP => absurd (h.1 rfl) hP⟩
  | false => exact ⟨fun hP => absurd (h.2 hP) Bool.false_ne_true, fun _ => r.countRun_false q⟩

end Sources

/-! ### The statements -/

/-- Settles O22: every LEVEL comparison and MARK go through the same count of a run (`Runtime.countRun_cases`), LEVEL
only on a present sample. -/
theorem levelAndMarkRuns : Obligations.LevelAndMarkRuns := by
  unfold Obligations.LevelAndMarkRuns
  intro c r a slot lo hi v mask hv level count
  obtain rfl : a.sample slot = v := hv
  refine ⟨fun habsent x hx => ?absent, fun x hx hpresent => ?evaluated⟩
  case absent =>
    obtain ⟨satisfied, -, hrun⟩ := c.onArrival_level r a slot lo hi hx
    rw [hrun, show a.sample slot = absentCode from habsent, Runtime.onSample_absent]
  case evaluated =>
    obtain hx | hx := List.mem_append.1 hx
    · have hv := hpresent.resolve_right (fst_ne_mark_of_mem_levelComparisons slot lo hi hx mask)
      obtain ⟨satisfied, hsat, hrun⟩ := c.onArrival_level r a slot lo hi hx
      rw [hrun, r.onSample_present hv]
      exact r.countRun_cases c.qualifier hsat
    · obtain rfl := List.mem_singleton.1 hx
      rw [c.onArrival_mark r a mask]
      exact r.countRun_cases c.qualifier bne_iff_ne

/-- Settles O23: an absent sample stops at `Runtime.onSample`; a present one takes its row of R59, R60 or R61. -/
theorem edgesAndSteps : Obligations.EdgesAndSteps := by
  unfold Obligations.EdgesAndSteps
  intro c r a slot lo hi v n hlh hv rise fall step
  have hrise : rise = r.onSample v (r.onRise lo hi) := hv ▸ c.onArrival_rise r a slot lo hi
  have hfall : fall = r.onSample v (r.onFall lo hi) := hv ▸ c.onArrival_fall r a slot lo hi
  have hstep : step = r.onSample v (r.onStep n) := hv ▸ c.onArrival_step r a slot n
  clear_value rise fall step
  subst hrise hfall hstep
  refine ⟨fun habsent => ?absent, fun hpresent => ?present⟩
  case absent =>
    obtain rfl : v = absentCode := habsent
    exact ⟨r.onSample_absent _, r.onSample_absent _, r.onSample_absent _⟩
  case present =>
    simp only [r.onSample_present hpresent]
    exact ⟨fun hlo => ⟨r.onRise_of_le_lo hlo, r.onFall_of_le_lo hlh hlo⟩,
      fun hlo hhi => ⟨r.onRise_of_between hlo hhi, r.onFall_of_between hlo hhi⟩,
      fun hhi => ⟨r.onRise_of_hi_le hlh hhi, r.onFall_of_hi_le hhi⟩,
      r.onStep_of_none n, fun _ => r.onStep_of_some n⟩

end Sys2Proof.Machine
end

section
/-! Postings: which entry a posting coalesces with and which one it evicts (R128, R129), and the statement about
postings. -/

namespace Sys2Proof.Machine

/-! ### The entry that a posting coalesces with -/

/-- The entry that coalescing looks for: QUEUED, of the posted kind and subject (R128). -/
theorem coalesces_iff {kind : NoticeKind} {subject : Nat} {cls : SubjectClass} {m : Notice} :
    (m.queued && (postedNotice kind subject cls).sameAs m) = true ↔
      m.sent = none ∧ m.kind = kind ∧ m.subject = subject ∧ m.cls = cls := by
  simp [Notice.queued, Notice.sameAs, postedNotice, and_assoc, @eq_comm _ kind, @eq_comm _ subject, @eq_comm _ cls]

theorem coalesce_eq_none_iff {n : Notice} {q : List Notice} :
    coalesce n q = none ↔ ∀ m ∈ q, ¬(m.queued && n.sameAs m) = true := by
  induction q with
  | nil => simp [coalesce]
  | cons m rest ih =>
    rw [coalesce, List.forall_mem_cons]
    split <;> simp_all

/-- R128: the first matching entry counts one more, and the others stay as they are. -/
theorem coalesce_append_cons {n m : Notice} {before : List Notice} (after : List Notice)
    (hbefore : ∀ x ∈ before, ¬(x.queued && n.sameAs x) = true) (hm : (m.queued && n.sameAs m) = true) :
    coalesce n (before ++ m :: after) = some (before ++ { m with repeats := min (m.repeats + 1) 255 } :: after) := by
  induction before with
  | nil => rw [List.nil_append, coalesce, if_pos hm, List.nil_append]
  | cons x rest ih =>
    obtain ⟨hx, hrest⟩ := List.forall_mem_cons.1 hbefore
    rw [List.cons_append, coalesce, if_neg hx, ih hrest, Option.map_some, List.cons_append]

/-! ### The entry that a posting evicts -/

/-- The lowest priority is the least one of the QUEUED entries (R129). -/
theorem lowestQueued_eq_min? (q : List Notice) :
    lowestQueued q = ((q.filter Notice.queued).map (·.kind.priority)).min? := by
  induction q with
  | nil => rfl
  | cons m rest ih =>
    rw [lowestQueued]
    split
    case isTrue hm =>
      rw [List.filter_cons_of_pos hm, List.map_cons, List.min?_cons, ← ih]
      cases lowestQueued rest <;> rfl
    case isFalse hm => rw [List.filter_cons_of_neg hm, ih]

theorem lowestQueued_eq_some_iff {q : List Notice} {p : Nat} :
    lowestQueued q = some p ↔
      (∃ n ∈ q, n.queued = true ∧ n.kind.priority = p) ∧ ∀ x ∈ q, x.queued = true → p ≤ x.kind.priority := by
  rw [lowestQueued_eq_min?, List.min?_eq_some_iff, List.mem_map, List.forall_mem_map]
  simp only [List.mem_filter, and_assoc, and_imp]

/-- The youngest QUEUED entry of a priority is the one with none of that priority after it. -/
theorem evictYoungest_append_cons {n : Notice} (before : List Notice) {after : List Notice} (hn : n.queued = true)
    (hafter : ∀ x ∈ after, x.queued = true → x.kind.priority ≠ n.kind.priority) :
    evictYoungest n.kind.priority (before ++ n :: after) = before ++ after := by
  have hlater : ∀ x ∈ after.reverse, ¬(x.queued && x.kind.priority == n.kind.priority) = true := by
    simpa using hafter
  rw [evictYoungest, List.reverse_append, List.reverse_cons, List.append_assoc, List.eraseP_append_right _ hlater,
    List.singleton_append, List.eraseP_cons_of_pos (by simp [hn])]
  simp

/-! ### The outcomes of a posting -/

section Outcomes

variable {s : State} {kind : NoticeKind} {subject : Nat} {cls : SubjectClass}

theorem State.post_of_coalesce {q : List Notice}
    (h : coalesce (postedNotice kind subject cls) s.notices.queue = some q) :
    s.post kind subject cls = s.setQueue q := by
  obtain ⟨q', hq', hpost⟩ | ⟨hnone, -⟩ | ⟨hnone, -⟩ | ⟨hnone, -⟩ := s.post_cases kind subject cls
  · rwa [Option.some.inj (h.symm.trans hq')]
  all_goals exact absurd (h.symm.trans hnone) (Option.some_ne_none q)

theorem State.post_of_room (hnew : coalesce (postedNotice kind subject cls) s.notices.queue = none)
    (h : s.notices.queue.length < Config.maxNotices) :
    s.post kind subject cls = s.setQueue (s.notices.queue ++ [postedNotice kind subject cls]) := by
  obtain ⟨q, hq, -⟩ | ⟨-, -, hpost⟩ | ⟨-, hfull, -⟩ | ⟨-, hfull, -⟩ := s.post_cases kind subject cls
  · exact absurd (hq.symm.trans hnew) (Option.some_ne_none q)
  · exact hpost
  all_goals exact absurd h hfull.not_gt

/-- A full queue without an entry to coalesce with loses the posted notice, or the evicted one (R129). -/
theorem State.post_of_full (hnew : coalesce (postedNotice kind subject cls) s.notices.queue = none)
    (h : Config.maxNotices ≤ s.notices.queue.length) {p : Nat} (hp : lowestQueued s.notices.queue = some p) :
    (p < kind.priority → s.post kind subject cls =
      (s.setQueue (evictYoungest p s.notices.queue ++ [postedNotice kind subject cls])).noticeLost) ∧
    (kind.priority ≤ p → s.post kind subject cls = s.noticeLost) := by
  obtain ⟨q, hq, -⟩ | ⟨-, hroom, -⟩ |
      ⟨-, -, p', hp', hlt, hpost⟩ | ⟨-, -, hle, hpost⟩ := s.post_cases kind subject cls
  · exact absurd (hq.symm.trans hnew) (Option.some_ne_none q)
  · exact absurd hroom h.not_gt
  · obtain rfl := Option.some.inj (hp.symm.trans hp')
    exact ⟨fun _ => hpost, fun hge => absurd hlt hge.not_gt⟩
  · exact ⟨fun hlt => absurd hlt (hle p hp).not_gt, fun _ => hpost⟩

end Outcomes

/-- Settles O28: one clause for each outcome of `State.post_cases`, with the entry that coalesces or is evicted found by
where it stands in the queue. -/
theorem postingsAreSettled : Obligations.PostingsAreSettled := by
  unfold Obligations.PostingsAreSettled
  intro s kind subject cls q new put lost same
  have hsame (m : Notice) : (m.queued && (postedNotice kind subject cls).sameAs m) = true ↔ same m := coalesces_iff
  have hqueued (m : Notice) : m.queued = true ↔ m.sent = none := Option.isNone_iff_eq_none
  refine ⟨fun before after n hq hbefore hn => ?coalesces, fun hno => ?isNew⟩
  case coalesces =>
    refine State.post_of_coalesce ?_
    rw [show s.notices.queue = _ from hq]
    exact coalesce_append_cons after (fun x hx => (hsame x).not.2 (hbefore x hx)) ((hsame n).2 hn)
  case isNew =>
    have hnew : coalesce (postedNotice kind subject cls) s.notices.queue = none :=
      coalesce_eq_none_iff.2 fun m hm => (hsame m).not.2 (hno m hm)
    refine ⟨State.post_of_room hnew, fun hfull before after n hq hn hleast hafter => ?full⟩
    case full =>
      have hmem : n ∈ s.notices.queue := by
        rw [show s.notices.queue = _ from hq]
        exact List.mem_append_right before List.mem_cons_self
      have hlow : lowestQueued s.notices.queue = some n.kind.priority :=
        lowestQueued_eq_some_iff.2
          ⟨⟨n, hmem, (hqueued n).2 hn, rfl⟩, fun x hx hxq => hleast x hx ((hqueued x).1 hxq)⟩
      have hevict : evictYoungest n.kind.priority s.notices.queue = before ++ after := by
        rw [show s.notices.queue = _ from hq]
        exact evictYoungest_append_cons before ((hqueued n).2 hn) fun x hx hxq => hafter x hx ((hqueued x).1 hxq)
      have hpost := State.post_of_full hnew hfull hlow
      rw [hevict] at hpost
      exact hpost

end Sys2Proof.Machine
end

section
/-! The notice queue's invariant (R127, R131) as a property of the queue alone, and each way the notice unit changes its
queue: postings, sends, resends, removals, the change of sink. -/

namespace Sys2Proof.Machine

/-! ### The invariant of the queue -/

/-- The numbers that SENT entries bear, oldest posting first. -/
def sentNumbers (q : List Notice) : List (BitVec 8) :=
  (q.filterMap Notice.sent).map Sent.number

/-- No two QUEUED entries share both kind and subject (R127). -/
def QueuedApart (q : List Notice) : Prop :=
  q.Pairwise fun m n => m.queued = true → n.queued = true → m.sameAs n = false

/-- What R127 and R131 say of the notice queue. -/
structure QueueWithin (q : List Notice) : Prop where
  entries : q.length ≤ Config.maxNotices
  sent : sentCount q ≤ Config.maxSent
  apart : QueuedApart q
  numbers : (sentNumbers q).Nodup

/-- The notice queue of a state keeps R127 and R131. -/
def State.NoticesWithin (s : State) : Prop := QueueWithin s.notices.queue

theorem State.noticesWithin_iff (s : State) :
    s.NoticesWithin ↔ s.NoticeInv ∧ s.QueuedDistinct ∧ s.NumbersDistinct :=
  ⟨fun ⟨entries, sent, apart, numbers⟩ => ⟨⟨entries, sent⟩, apart, numbers⟩,
    fun ⟨⟨entries, sent⟩, apart, numbers⟩ => ⟨entries, sent, apart, numbers⟩⟩

theorem length_sentNumbers (q : List Notice) : (sentNumbers q).length = sentCount q := by
  rw [sentNumbers, List.length_map, List.length_filterMap_eq_countP, sentCount]

theorem mem_sentNumbers {q : List Notice} {number : BitVec 8} :
    number ∈ sentNumbers q ↔ ∃ n ∈ q, n.bears number = true := by
  simp only [sentNumbers, List.map_filterMap, List.mem_filterMap]
  refine exists_congr fun n => and_congr_right fun _ => ?_
  rw [Notice.bears]
  cases n.sent <;> simp

theorem queueWithin_nil : QueueWithin [] :=
  ⟨Nat.zero_le _, Nat.zero_le _, List.Pairwise.nil, List.nodup_nil⟩

/-- Entries may leave. -/
theorem QueueWithin.sublist {q q' : List Notice} (h : QueueWithin q) (hsub : q'.Sublist q) : QueueWithin q' where
  entries := hsub.length_le.trans h.entries
  sent := hsub.countP_le.trans h.sent
  apart := List.Pairwise.sublist hsub h.apart
  numbers := h.numbers.sublist ((hsub.filterMap _).map _)

theorem Notice.sameAs_comm (m n : Notice) : m.sameAs n = n.sameAs m := by
  simp only [Notice.sameAs, eq_comm]

theorem QueuedApart.append_singleton {q : List Notice} {n : Notice} (h : QueuedApart q)
    (hnew : ∀ m ∈ q, ¬(m.queued && n.sameAs m) = true) : QueuedApart (q ++ [n]) := by
  refine List.pairwise_append.2 ⟨h, List.pairwise_singleton _ _, fun m hm x hx hmq _ => ?_⟩
  obtain rfl := List.mem_singleton.1 hx
  rw [Notice.sameAs_comm]
  simpa [hmq] using hnew m hm

/-- A QUEUED entry of a new kind or subject may join the young end of a queue that has room. -/
theorem QueueWithin.append_queued {q : List Notice} {n : Notice} (h : QueueWithin q) (hn : n.sent = none)
    (hroom : q.length < Config.maxNotices) (hnew : ∀ m ∈ q, ¬(m.queued && n.sameAs m) = true) :
    QueueWithin (q ++ [n]) where
  entries := by simpa using hroom
  sent := by simpa [sentCount, hn] using h.sent
  apart := h.apart.append_singleton hnew
  numbers := by simpa [sentNumbers, hn] using h.numbers

/-! ### What the invariant reads of an entry -/

/-- An entry less what the invariant does not read: repeats, resends, timer, due and stamp. -/
def Notice.bare (n : Notice) : Notice :=
  { n with repeats := 0, sent := n.sent.map fun x => { number := x.number, resends := 0, timer := none, due := false,
                                                       order := 0 } }

@[simp] theorem Notice.bare_queued (n : Notice) : n.bare.queued = n.queued := by
  simp [Notice.bare, Notice.queued]

@[simp] theorem Notice.bare_sameAs (m n : Notice) : m.bare.sameAs n.bare = m.sameAs n := rfl

theorem sentCount_map_bare (q : List Notice) : sentCount (q.map Notice.bare) = sentCount q := by
  simp [sentCount, List.countP_map, Notice.bare, Function.comp_def]

theorem sentNumbers_map_bare (q : List Notice) : sentNumbers (q.map Notice.bare) = sentNumbers q := by
  simp [sentNumbers, List.map_filterMap, List.filterMap_map, Notice.bare, Function.comp_def]

theorem queuedApart_map_bare (q : List Notice) : QueuedApart (q.map Notice.bare) ↔ QueuedApart q := by
  simp [QueuedApart, List.pairwise_map]

/-- Queues that differ only in what the invariant does not read. -/
theorem QueueWithin.of_map_bare {q q' : List Notice} (h : QueueWithin q)
    (heq : q'.map Notice.bare = q.map Notice.bare) : QueueWithin q' where
  entries := by
    have hlength : q'.length = q.length := by simpa using congrArg List.length heq
    exact hlength ▸ h.entries
  sent := by
    rw [← sentCount_map_bare, heq, sentCount_map_bare]
    exact h.sent
  apart := by
    rw [← queuedApart_map_bare, heq, queuedApart_map_bare]
    exact h.apart
  numbers := by
    rw [← sentNumbers_map_bare, heq, sentNumbers_map_bare]
    exact h.numbers

theorem map_bare_modify {f : Notice → Notice} (hf : ∀ n, (f n).bare = n.bare) (q : List Notice) (k : Nat) :
    (q.modify k f).map Notice.bare = q.map Notice.bare := by
  refine List.ext_getElem? fun j => ?_
  simp only [List.getElem?_map, List.getElem?_modify, Option.map_eq_map, Option.map_map]
  congr 1
  funext n
  simp only [Function.comp_apply]
  split
  · exact hf n
  · rfl

/-! ### Postings -/

theorem map_bare_coalesce {n : Notice} {q q' : List Notice} (h : coalesce n q = some q') :
    q'.map Notice.bare = q.map Notice.bare := by
  induction q generalizing q' with
  | nil => cases h
  | cons m rest ih =>
    rw [coalesce] at h
    split at h
    · cases h
      rfl
    · obtain ⟨rest', hrest, rfl⟩ := Option.map_eq_some_iff.1 h
      rw [List.map_cons, List.map_cons, ih hrest]

theorem evictYoungest_sublist (p : Nat) (q : List Notice) : (evictYoungest p q).Sublist q := by
  rw [← List.reverse_sublist, evictYoungest, List.reverse_reverse]
  exact List.eraseP_sublist

/-- An eviction makes room for one entry. -/
theorem length_evictYoungest {p : Nat} {q : List Notice} (h : lowestQueued q = some p) :
    (evictYoungest p q).length + 1 = q.length := by
  obtain ⟨⟨n, hn, hq, hp⟩, -⟩ := lowestQueued_eq_some_iff.1 h
  have hpos := List.length_pos_of_mem hn
  rw [evictYoungest, List.length_reverse,
    List.length_eraseP_of_mem (List.mem_reverse.2 hn) (by simp [hq, hp]), List.length_reverse]
  omega

/-- A posting adds only where there is no entry to coalesce with, and only into room that there is or that it makes. -/
theorem State.NoticesWithin.post {s : State} (h : s.NoticesWithin) (kind : NoticeKind) (subject : Nat)
    (cls : SubjectClass) : (s.post kind subject cls).NoticesWithin := by
  obtain ⟨q, hq, hpost⟩ | ⟨hnew, hroom, hpost⟩ | ⟨hnew, -, p, hp, -, hpost⟩ | ⟨-, -, -, hpost⟩ :=
    s.post_cases kind subject cls <;> rw [hpost]
  · exact h.of_map_bare (map_bare_coalesce hq)
  · exact h.append_queued rfl hroom (coalesce_eq_none_iff.1 hnew)
  · have hsub := evictYoungest_sublist p s.notices.queue
    exact (h.sublist hsub).append_queued rfl ((length_evictYoungest hp).trans_le h.entries)
      fun m hm => coalesce_eq_none_iff.1 hnew m (hsub.mem hm)
  · exact h

/-! ### First sends and resends -/

/-- While fewer than 256 entries are SENT the search for a free number finds one (R131). -/
theorem freeNumber_not_mem (next : BitVec 8) {q : List Notice} (h : sentCount q < 256) :
    freeNumber next q ∉ sentNumbers q := by
  rw [freeNumber]
  split
  case h_1 hnone =>
    have hall (x : BitVec 8) : x ∈ sentNumbers q := by
      have hx := List.find?_range_eq_none.1 hnone (x - next).toNat (x - next).isLt
      rw [BitVec.ofNat_toNat, BitVec.setWidth_eq, add_sub_cancel, Bool.not_not, List.any_eq_true] at hx
      exact mem_sentNumbers.2 hx
    have huniv : (sentNumbers q).toFinset = Finset.univ :=
      Finset.eq_univ_of_forall fun x => List.mem_toFinset.2 (hall x)
    have hle := (sentNumbers q).toFinset_card_le
    rw [huniv, length_sentNumbers, Finset.card_univ, ← FinEnum.card_eq_fintypeCard, FinEnum.card_bitVec] at hle
    omega
  case h_2 k hk =>
    rw [mem_sentNumbers, ← List.any_eq_true]
    simpa using List.find?_some hk

/-- An entry SENT as `x`. -/
def Notice.sentAs (x : Sent) (n : Notice) : Notice := { n with sent := some x }

/-- What the first send under a number adds to its entry (R131). -/
def State.firstSent (s : State) (number : BitVec 8) : Sent :=
  { number := number, resends := 0, timer := some s.resendTicks, due := false, order := s.notices.sends }

theorem State.sendAt_queue (s : State) (k : Nat) (number : BitVec 8) :
    (s.sendAt k number).notices.queue = s.notices.queue.modify k (Notice.sentAs (s.firstSent number)) := rfl

/-- R131: a QUEUED entry becomes SENT under a number that no SENT entry holds. -/
theorem QueueWithin.send {before after : List Notice} {n : Notice} {x : Sent}
    (h : QueueWithin (before ++ n :: after)) (hn : n.sent = none)
    (hsent : sentCount (before ++ n :: after) < Config.maxSent)
    (hnumber : x.number ∉ sentNumbers (before ++ n :: after)) : QueueWithin (before ++ n.sentAs x :: after) where
  entries := by simpa using h.entries
  sent := by
    simp only [sentCount, List.countP_append, List.countP_cons, hn] at hsent ⊢
    simpa [Notice.sentAs, ← Nat.add_assoc, Nat.succ_le_iff] using hsent
  apart := by
    have hothers : QueuedApart (before ++ after) := List.Pairwise.sublist (by simp) h.apart
    refine (List.pairwise_middle fun hxy hy hx => ?symm).2 (List.pairwise_cons.2 ⟨?sent, hothers⟩)
    case symm => rw [Notice.sameAs_comm, hxy hx hy]
    case sent => exact fun _ _ hqueued => absurd hqueued Bool.false_ne_true
  numbers := by
    have hnodup := h.numbers
    simp only [sentNumbers, List.filterMap_append, List.filterMap_cons, Notice.sentAs, hn, List.map_append,
      List.map_cons] at hnodup hnumber ⊢
    exact List.nodup_middle.2 (List.nodup_cons.2 ⟨hnumber, hnodup⟩)

/-- The place of a first send is a QUEUED entry's (R130). -/
theorem sent_eq_none_of_queuedPlace {q : List Notice} {k : Nat} {n : Notice} (hk : queuedPlace q = some k)
    (hn : q[k]? = some n) : n.sent = none := by
  rw [queuedPlace] at hk
  split at hk
  · cases hk
  · obtain ⟨hlt, hqueued, -⟩ := List.findIdx?_eq_some_iff_getElem.1 hk
    rw [List.getElem?_eq_getElem hlt, Option.some.injEq] at hn
    rw [hn, Bool.and_eq_true] at hqueued
    exact Option.isNone_iff_eq_none.1 hqueued.1

theorem QueueWithin.modify_sentAs {q : List Notice} {k : Nat} {n : Notice} {x : Sent} (h : QueueWithin q)
    (hk : q[k]? = some n) (hn : n.sent = none) (hsent : sentCount q < Config.maxSent)
    (hnumber : x.number ∉ sentNumbers q) : QueueWithin (q.modify k (Notice.sentAs x)) := by
  obtain ⟨hlt, -⟩ := List.getElem?_eq_some_iff.1 hk
  obtain ⟨before, m, after, rfl, rfl, hmodify⟩ := List.exists_of_modify (Notice.sentAs x) hlt
  obtain rfl : m = n := by simpa using hk
  exact hmodify ▸ h.send hn hsent hnumber

theorem Notice.bare_map_sent (f : Sent → Sent) (hf : ∀ x, (f x).number = x.number) (n : Notice) :
    Notice.bare { n with sent := n.sent.map f } = n.bare := by
  simp [Notice.bare, Function.comp_def, hf]

/-- What SENT entries hold may change at a place, but for their numbers. -/
theorem QueueWithin.modify_sent {q : List Notice} (h : QueueWithin q) (k : Nat) (f : Sent → Sent)
    (hf : ∀ x, (f x).number = x.number) : QueueWithin (q.modify k fun n => { n with sent := n.sent.map f }) :=
  h.of_map_bare (map_bare_modify (Notice.bare_map_sent f hf) q k)

namespace State.NoticesWithin

variable {s : State}

/-- A resend changes what the invariant does not read, a first send takes a free number while fewer than 8 entries are
SENT (R130, R131). -/
theorem offer (h : s.NoticesWithin) : s.offer.2.NoticesWithin := by
  rw [State.offer]
  split
  case h_1 k hk =>
    split
    · exact h
    · exact h.modify_sent k (·.resent s.resendTicks) fun _ => rfl
  case h_2 =>
    split
    case isFalse => exact h
    case isTrue hsent =>
      split
      · exact h
      · rename_i k hplace
        split
        · exact h
        · rename_i n hn
          have hfree := freeNumber_not_mem s.notices.nextNumber (hsent.trans (by decide))
          exact h.modify_sentAs hn (sent_eq_none_of_queuedPlace hplace hn) hsent hfree

/-- At a run-out the entry leaves or becomes due (R133). -/
theorem resendRunsOut (h : s.NoticesWithin) (number : BitVec 8) : (s.resendRunsOut number).NoticesWithin := by
  rw [State.resendRunsOut]
  split
  case h_1 => exact h
  case h_2 k _ =>
    split
    · exact h
    · split
      · exact h
      · split
        · exact h.sublist (List.eraseIdx_sublist _ k)
        · exact h.modify_sent k Sent.runOut fun _ => rfl

end State.NoticesWithin

/-! ### Removal, the change of sink, and time -/

/-- ACK NOTICES only removes entries (R135). -/
theorem QueueWithin.ack {q : List Notice} (h : QueueWithin q) (numbers : List (BitVec 8)) :
    QueueWithin (numbers.foldl ackOne q) :=
  List.foldlRecOn numbers ackOne h fun _ hq _ _ => hq.sublist List.eraseP_sublist

/-- R136: an entry merges into an older one, or there is none to merge into and it joins the young end. -/
theorem mergeInto_cases (q : List Notice) (n : Notice) :
    (mergeInto q n = q ++ [n] ∧ ∀ m ∈ q, ¬(m.queued && n.sameAs m) = true) ∨
      (mergeInto q n).map Notice.bare = q.map Notice.bare := by
  rw [mergeInto]
  split
  case h_1 hnone => exact .inl ⟨rfl, fun m hm => by simp [List.findIdx?_eq_none_iff.1 hnone m hm]⟩
  case h_2 k _ =>
    refine .inr (map_bare_modify ?_ q k)
    exact fun _ => rfl

theorem QueueWithin.foldl_mergeInto {l q : List Notice} (h : QueueWithin q) (hl : ∀ n ∈ l, n.sent = none)
    (hroom : q.length + l.length ≤ Config.maxNotices) : QueueWithin (l.foldl mergeInto q) := by
  induction l generalizing q with
  | nil => exact h
  | cons n rest ih =>
    obtain ⟨hn, hrest⟩ := List.forall_mem_cons.1 hl
    rw [List.length_cons] at hroom
    obtain ⟨happend, hnew⟩ | hmerge := mergeInto_cases q n
    · refine ih ?_ hrest ?_
      · exact happend ▸ h.append_queued hn (by omega) hnew
      · rw [happend, List.length_append, List.length_singleton]
        omega
    · have hlength : (mergeInto q n).length = q.length := by simpa using congrArg List.length hmerge
      exact ih (h.of_map_bare hmerge) hrest (by omega)

theorem QueueWithin.requeue {q : List Notice} (h : QueueWithin q) : QueueWithin (requeue q) :=
  queueWithin_nil.foldl_mergeInto (by simp [Notice.requeued]) (by simpa using h.entries)

theorem QueueWithin.map_tick {q : List Notice} (h : QueueWithin q) : QueueWithin (q.map Notice.tick) :=
  h.of_map_bare <| by
    rw [List.map_map]
    exact List.map_congr_left fun n _ => n.bare_map_sent (fun x => { x with timer := tickTimer x.timer }) fun _ => rfl

/-- R137: the one entry at reset release. -/
theorem queueWithin_released : QueueWithin NoticeUnit.released.queue :=
  queueWithin_nil.append_queued rfl (by decide) (by simp)

end Sys2Proof.Machine
end

section
/-! Operations that leave the notice unit alone, block by block in the model's order. -/

namespace Sys2Proof.Machine

variable (s : State)

theorem foldl_notices {α : Type} {f : State → α → State} (hf : ∀ t x, (f t x).notices = t.notices) (l : List α) :
    (l.foldl f s).notices = s.notices :=
  List.foldlRecOn (motive := fun t => t.notices = s.notices) l f rfl fun t ht x _ => (hf t x).trans ht

@[simp] theorem State.draw_notices : s.draw.2.notices = s.notices := by
  rw [State.draw]
  split <;> rfl

/-! ### The ring and the watch table -/

@[simp] theorem State.grant_notices (g : Fin 64) (ctx : Fin 4) (sequence : BitVec 32) (auto : Bool) :
    (s.grant g ctx sequence auto).notices = s.notices := rfl

@[simp] theorem State.complete_notices (g : Fin 64) (reason : EndReason) (fill : Nat) :
    (s.complete g reason fill).notices = s.notices := rfl

@[simp] theorem State.armWatch_notices (i : Fin 32) : (s.armWatch i).notices = s.notices := by
  rw [State.armWatch]
  split <;> rfl

@[simp] theorem State.disarmWatch_notices (i : Fin 32) : (s.disarmWatch i).notices = s.notices := by
  rw [State.disarmWatch]
  split
  · rfl
  · split <;> simp

@[simp] theorem State.armGroup_notices (mask : BitVec 4) : (s.armGroup mask).notices = s.notices :=
  foldl_notices s State.armWatch_notices _

@[simp] theorem State.disarmGroup_notices (mask : BitVec 4) : (s.disarmGroup mask).notices = s.notices :=
  foldl_notices s State.disarmWatch_notices _

@[simp] theorem State.endStepOf_notices (o : Option (Fin 32)) : (s.endStepOf o).notices = s.notices := by
  cases o <;> rfl

/-! ### The capture engine -/

@[simp] theorem State.writeRow_notices (ctx : Fin 4) (c : Context) (values : List Sample) (pre gap : Bool) :
    (s.writeRow ctx c values pre gap).notices = s.notices := rfl

@[simp] theorem State.addRow_notices (ctx : Fin 4) (values : List Sample) (pre gap : Bool) :
    (s.addRow ctx values pre gap).notices = s.notices := by
  rw [State.addRow]
  split <;> rfl

@[simp] theorem State.writePreRows_notices (ctx : Fin 4) (rows : List Row) :
    (s.writePreRows ctx rows).notices = s.notices :=
  foldl_notices s (fun t _ => t.addRow_notices ctx _ _ _) rows

@[simp] theorem State.learnTrigger_notices (ctx : Fin 4) (a : Arrival) : (s.learnTrigger ctx a).notices = s.notices := by
  rw [State.learnTrigger]
  split
  · rfl
  · split <;> rfl

@[simp] theorem State.dropCapture_notices (ctx : Fin 4) : (s.dropCapture ctx).notices = s.notices := by
  rw [State.dropCapture]
  split
  · rfl
  · simp

@[simp] theorem State.dropAll_notices : s.dropAll.notices = s.notices :=
  foldl_notices s State.dropCapture_notices _

@[simp] theorem State.endOrder_notices : s.endOrder.2.notices = s.notices := by
  rw [State.endOrder]
  split
  · rfl
  · exact s.draw_notices

/-! ### Fires, events and lines -/

@[simp] theorem State.requestMark_notices (o : Option (Fin 16)) : (s.requestMark o).notices = s.notices := by
  cases o with
  | none => rfl
  | some m =>
    rw [State.requestMark]
    split <;> rfl

@[simp] theorem State.takeFire_notices (i : Fin 32) (c : Contents) (reference : Option Sweep) :
    (s.takeFire i c reference).notices = s.notices := by
  simp [State.takeFire]

@[simp] theorem State.notifyFirst_notices (c : Contents) : (s.notifyFirst c).2.notices = s.notices := by
  rw [State.notifyFirst]
  split
  · exact s.draw_notices
  · rfl

@[simp] theorem State.applyEntry_notices (e : EventEntry) : (s.applyEntry e).notices = s.notices := by
  rw [State.applyEntry]
  split
  · split <;> simp
  · rfl

@[simp] theorem State.levelChanges_notices (line : Line) (level : Bool) :
    (s.levelChanges line level).notices = s.notices := rfl

@[simp] theorem State.pulseRunsOut_notices (line : Line) : (s.pulseRunsOut line).notices = s.notices := by
  cases line <;> rfl

/-! ### The port and the handler -/

@[simp] theorem State.markDown_notices : s.markDown.notices = s.notices := rfl

@[simp] theorem State.downToHunt_notices : s.downToHunt.notices = s.notices := rfl

@[simp] theorem State.restartLease_notices (control : Bool) (origin : Addr) :
    (s.restartLease control origin).notices = s.notices := by
  rw [State.restartLease]
  split <;> rfl

@[simp] theorem State.denied_notices (k : RequestKind) (c : Call) : (s.denied k c).2.notices = s.notices := by
  rw [State.denied]
  split
  · exact s.draw_notices
  · rfl

end Sys2Proof.Machine
end

section
/-! What the operations do that post: each keeps the notice queue's invariant, block by block in the model's order. -/

namespace Sys2Proof.Machine

namespace State.NoticesWithin

variable {s : State}

theorem of_notices {t : State} (h : s.NoticesWithin) (heq : t.notices = s.notices) : t.NoticesWithin := by
  rw [State.NoticesWithin, heq]
  exact h

theorem ite {t u : State} {p : Prop} [Decidable p] (ht : t.NoticesWithin) (hu : u.NoticesWithin) :
    (if p then t else u).NoticesWithin := by
  split
  · exact ht
  · exact hu

theorem foldl {α : Type} {f : State → α → State} (h : s.NoticesWithin)
    (hf : ∀ t x, t.NoticesWithin → (f t x).NoticesWithin) (l : List α) : (l.foldl f s).NoticesWithin :=
  List.foldlRecOn l f h fun t ht x _ => hf t x ht

/-! ### The ring -/

theorem ringLowTest (h : s.NoticesWithin) : s.ringLowTest.NoticesWithin := by
  obtain ⟨-, -, hs⟩ | ⟨-, -, hs⟩ | ⟨-, hs⟩ := s.ringLowTest_cases <;> rw [hs]
  · exact h
  · exact post h .ringLow s.ring.freeCount .count
  · exact h

theorem allocate {ctx : Fin 4} {sequence : BitVec 32} {p : Profile} {g : Fin 64} {t : State} (h : s.NoticesWithin)
    (ht : s.allocate ctx sequence p = some (g, t)) : t.NoticesWithin := by
  rw [State.allocate] at ht
  split at ht
  case h_1 =>
    cases ht
    exact ringLowTest h
  case h_2 =>
    split at ht
    · cases ht
    · split at ht
      · cases ht
      · cases ht
        exact post (s := (s.unlist g).bump .capturesLost 1) h .captureLost g.val .segment

/-! ### The capture engine -/

/-- CAPTURE_DONE (R93). -/
theorem endCapture (h : s.NoticesWithin) (ctx : Fin 4) (reason : EndReason) :
    (s.endCapture ctx reason).NoticesWithin := by
  rw [State.endCapture]
  split
  case h_1 => exact h
  case h_2 c _ =>
    have hended : State.NoticesWithin (((s.writeSegment c.segment 0 [c.word0 reason]).complete c.segment reason
        c.used).bump .capturesDone 1) := h.of_notices (by simp)
    refine of_notices ?_ (State.endStepOf_notices _ _)
    refine of_notices ?_ (State.setContext_notices _ ctx none)
    exact ite (hended.post .captureDone c.segment.val .segment) hended

theorem endAll (h : s.NoticesWithin) (reason : EndReason) : (s.endAll reason).NoticesWithin :=
  (h.of_notices s.endOrder_notices).foldl (fun _ ctx ht => ht.endCapture ctx reason) _

theorem captureLost (h : s.NoticesWithin) (w : Fin 32) : (s.captureLost w).NoticesWithin :=
  post (s := s.bump .capturesLost 1) h .captureLost w.val .watch

theorem afterPostRow (h : s.NoticesWithin) (ctx : Fin 4) (due : Sweep) : (s.afterPostRow ctx due).NoticesWithin := by
  rw [State.afterPostRow]
  split
  · exact h
  · refine ite (endCapture ?_ ctx .complete) ?_ <;> exact h

theorem triggerRow (h : s.NoticesWithin) (ctx : Fin 4) (prof : Profile) (o : Option Arrival) :
    (s.triggerRow ctx prof o).NoticesWithin := by
  cases o with
  | none => exact h
  | some a => exact (h.of_notices (s.addRow_notices ctx _ _ _)).afterPostRow ctx a.number

theorem openGranted (h : s.NoticesWithin) (ctx : Fin 4) (w : Fin 32) (p : Fin 8) (prof : Profile) (g : Fin 64)
    (trigger : Option Sweep) (o : Option Arrival) : (s.openGranted ctx w p prof g trigger o).NoticesWithin := by
  refine triggerRow ?_ ctx prof o
  exact h.of_notices (by simp)

theorem openCapture (h : s.NoticesWithin) (ctx : Fin 4) (w : Fin 32) (p : Fin 8) (trigger : Option Sweep)
    (o : Option Arrival) : (s.openCapture ctx w p trigger o).2.NoticesWithin := by
  rw [State.openCapture]
  split
  · exact h.captureLost w
  · split
    · exact h.captureLost w
    · rename_i hgrant
      exact (h.allocate hgrant).openGranted ctx w p _ _ trigger o

theorem coverSweep (h : s.NoticesWithin) (ctx : Fin 4) (a : Arrival) (x : Sweep × Bool) :
    (s.coverSweep ctx a x).NoticesWithin := by
  rw [State.coverSweep]
  split
  · exact h
  · refine ite (ite (h.endCapture ctx .truncated) ?_) h
    exact (h.of_notices (s.writeRow_notices ctx _ _ _ _)).afterPostRow ctx x.1

theorem takeArrival (h : s.NoticesWithin) (ctx : Fin 4) (a : Arrival) : (s.takeArrival ctx a).NoticesWithin :=
  (h.of_notices (s.learnTrigger_notices ctx a)).foldl (fun _ x ht => ht.coverSweep ctx a x) _

/-! ### Fires -/

theorem refuseFire (h : s.NoticesWithin) (i : Fin 32) : (s.refuseFire i).NoticesWithin :=
  post (s := (s.bump .firesRefused 1).modifyWatch i Watch.refusedOnce) h .watchRefused i.val .watch

theorem notifyFire (h : s.NoticesWithin) (i : Fin 32) (c : Contents) : (s.notifyFire i c).NoticesWithin :=
  ite (post h .watchFired i.val .watch) h

theorem fireCapture (h : s.NoticesWithin) (i : Fin 32) (c : Contents) (p : Fin 8) (ctx : Fin 4)
    (reference : Option Sweep) (o : Option Arrival) : (s.fireCapture i c p ctx reference o).2.NoticesWithin := by
  have ht := h.of_notices (s.notifyFirst_notices c)
  rw [State.fireCapture]
  split
  · exact (ht.notifyFire i c).openCapture ctx i p reference o
  · exact (ht.openCapture ctx i p reference o).notifyFire i c

theorem fire (h : s.NoticesWithin) (i : Fin 32) (reference : Option Sweep) (o : Option Arrival) :
    (s.fire i reference o).2.NoticesWithin := by
  rw [State.fire]
  split
  case h_1 => exact h
  case h_2 w _ =>
    have ht := h.of_notices (s.takeFire_notices i w.contents reference)
    split
    · exact ht.notifyFire i w.contents
    · split
      · exact h.refuseFire i
      · exact ht.fireCapture i w.contents _ _ reference o

theorem fireIf (h : s.NoticesWithin) (i : Fin 32) (c : Contents) (met : Bool) (reference : Option Sweep)
    (o : Option Arrival) : (s.fireIf i c met reference o).NoticesWithin :=
  ite (h.fire i reference o) h

/-! ### Occasions -/

theorem settle (h : s.NoticesWithin) (before : Vector (Option Watch) 32) (a : Arrival) (i : Fin 32) :
    (s.settle before a i).NoticesWithin := by
  rw [State.settle]
  split
  case h_1 => exact h
  case h_2 w _ =>
    split
    case h_1 => exact (h.of_notices (s.modifyWatch_notices i _)).fireIf i w.contents _ _ _
    all_goals exact h

theorem settleOccasion (h : s.NoticesWithin) (meets : Condition → Bool) (i : Fin 32) :
    (s.settleOccasion meets i).NoticesWithin := by
  rw [State.settleOccasion]
  split
  · exact h
  · exact ite (h.fireIf i _ _ _ none) h

theorem occasion (h : s.NoticesWithin) (meets : Condition → Bool) : (s.occasion meets).NoticesWithin :=
  h.foldl (fun _ i ht => ht.settleOccasion meets i) _

theorem takeAll (h : s.NoticesWithin) (a : Arrival) (cs : List (Fin 4)) : (s.takeAll a cs).NoticesWithin :=
  h.foldl (fun _ c ht => ht.takeArrival c a) cs

theorem handOn (h : s.NoticesWithin) (a : Arrival) : (s.handOn a).NoticesWithin := by
  rw [State.handOn]
  split
  · exact h.foldl (fun _ i ht => ht.settle s.watches a i) _
  · exact ((h.of_notices s.draw_notices).foldl (fun _ i ht => (ht.takeAll a _).settle s.watches a i) _).takeAll a _

/-! ### The sweep receiver -/

theorem takeSweep (h : s.NoticesWithin) (a : Arrival) : (s.takeSweep a).NoticesWithin :=
  handOn (s := { s with receiver := s.receiver.take a }) h a

theorem resync (h : s.NoticesWithin) : s.resync.NoticesWithin := by
  refine endAll ?_ .sequence
  exact h.of_notices (by simp)

theorem acceptSweep (h : s.NoticesWithin) (n : Sweep) (mark : Word) (slots : List Sample) :
    (s.acceptSweep n mark slots).NoticesWithin := by
  rw [State.acceptSweep]
  split
  case h_1 => exact h.takeSweep _
  case h_2 d _ => exact takeSweep (s := s.bump .missedSweeps d) h _
  case h_3 => exact h.resync.takeSweep _

/-! ### Events and lines -/

theorem applyEvent (h : s.NoticesWithin) (code : Fin 16) : (s.applyEvent code).NoticesWithin :=
  (h.of_notices (s.applyEntry_notices _)).occasion _

theorem eventArrives (h : s.NoticesWithin) (code : Fin 16) (immediate : Bool) :
    (s.eventArrives code immediate).NoticesWithin := by
  rw [State.eventArrives]
  exact (h.applyEvent code).ite (ite h (post (s := s.bump .eventsDropped 1) h .eventDropped code.val .code))

theorem eventExpires (h : s.NoticesWithin) (place : Nat) : (s.eventExpires place).NoticesWithin := by
  rw [State.eventExpires]
  split
  case h_1 => exact h
  case h_2 w _ =>
    refine applyEvent ?_ w.code
    exact h

theorem candidateRunsOut (h : s.NoticesWithin) (line : Line) : (s.candidateRunsOut line).NoticesWithin := by
  rw [State.candidateRunsOut]
  refine ite ?_ h
  split
  · exact h
  · refine occasion ?_ _
    exact h

/-! ### The loop port -/

theorem enterUp (h : s.NoticesWithin) : s.enterUp.NoticesWithin := by
  refine ite (post ?_ .link 0 .nothing) ?_ <;> exact h

theorem departUp (h : s.NoticesWithin) : s.departUp.NoticesWithin := by
  refine ite (endAll ?_ .link) h
  exact h.of_notices (by simp)

theorem upToHunt (h : s.NoticesWithin) : s.upToHunt.NoticesWithin := by
  refine departUp ?_
  exact h

theorem enterDown (h : s.NoticesWithin) : s.enterDown.NoticesWithin := by
  rw [State.enterDown]
  split
  · exact h
  · exact h
  · exact (h.of_notices s.markDown_notices).departUp

theorem huntValid (h : s.NoticesWithin) (ws : List Word) : (s.huntValid ws).NoticesWithin := by
  refine ite (enterUp ?_) ?_ <;> exact h

theorem damagedArrives (h : s.NoticesWithin) (ws : List Word) : (s.damagedArrives ws).NoticesWithin := by
  refine ite (upToHunt ?_) ?_ <;> exact h

/-- R138: a loop reset empties the queue. -/
theorem loopReset (s : State) : s.loopReset.NoticesWithin := queueWithin_nil

end State.NoticesWithin

end Sys2Proof.Machine
end

section
/-! The requests: those whose entry leaves the notice unit alone, and those that keep the notice queue's invariant
otherwise. -/

namespace Sys2Proof.Machine

section Unchanged

variable (c : Call) (s : State)

/-! ### Requests that leave the notice unit alone -/

theorem withWatch_notices {f : Fin 32 → Reply × State} (hf : ∀ i, (f i).2.notices = s.notices) :
    (withWatch c s f).2.notices = s.notices := by
  rw [withWatch]
  split
  · rfl
  · exact hf _

theorem withProfile_notices {f : Fin 8 → Reply × State} (hf : ∀ i, (f i).2.notices = s.notices) :
    (withProfile c s f).2.notices = s.notices := by
  rw [withProfile]
  split
  · rfl
  · exact hf _

theorem doGetParam_notices : (doGetParam c s).2.notices = s.notices := by
  rw [doGetParam]
  split
  · rfl
  · split
    · rfl
    · split <;> rfl

theorem doReadCounters_notices : (doReadCounters c s).2.notices = s.notices := by
  rw [doReadCounters]
  split
  · rfl
  · dsimp only
    split <;> rfl

theorem doSetHistory_notices : (doSetHistory c s).2.notices = s.notices := by
  rw [doSetHistory]
  split
  · rfl
  · split <;> rfl

theorem doLoadWatch_notices : (doLoadWatch c s).2.notices = s.notices := by
  rw [doLoadWatch]
  split
  · rfl
  · split <;> rfl

theorem doClearWatch_notices : (doClearWatch c s).2.notices = s.notices :=
  withWatch_notices c s fun i => by
    split <;> rfl

theorem doGetWatch_notices : (doGetWatch c s).2.notices = s.notices :=
  withWatch_notices c s fun i => by
    split <;> rfl

theorem doArm_notices : (doArm c s).2.notices = s.notices :=
  withWatch_notices c s fun i => by
    split
    case h_5 => exact s.armWatch_notices i
    all_goals rfl

theorem doDisarm_notices : (doDisarm c s).2.notices = s.notices :=
  withWatch_notices c s fun i => by
    split
    · rfl
    · exact s.disarmWatch_notices i

theorem doArmGroup_notices : (doArmGroup c s).2.notices = s.notices := by
  rw [doArmGroup]
  split
  · rfl
  · exact s.armGroup_notices _

theorem doDisarmGroup_notices : (doDisarmGroup c s).2.notices = s.notices := by
  rw [doDisarmGroup]
  split
  · rfl
  · exact s.disarmGroup_notices _

theorem doLoadProfile_notices : (doLoadProfile c s).2.notices = s.notices := by
  rw [doLoadProfile]
  split
  · rfl
  · split <;> rfl

theorem doClearProfile_notices : (doClearProfile c s).2.notices = s.notices :=
  withProfile_notices c s fun i => by
    split
    · rfl
    · split <;> rfl

theorem doGetProfile_notices : (doGetProfile c s).2.notices = s.notices :=
  withProfile_notices c s fun i => by
    split <;> rfl

theorem doSegmentInfo_notices : (doSegmentInfo c s).2.notices = s.notices := by
  rw [doSegmentInfo, withSegment]
  split
  · rfl
  · split <;> rfl

theorem doScan_notices : (doScan c s).2.notices = s.notices := by
  rw [doScan]
  split
  · rfl
  · split
    · rfl
    · split <;> rfl

theorem doSetEventEntry_notices : (doSetEventEntry c s).2.notices = s.notices := by
  rw [doSetEventEntry]
  split <;> rfl

theorem doGetEventEntry_notices : (doGetEventEntry c s).2.notices = s.notices := by
  rw [doGetEventEntry]
  split <;> rfl

theorem doSetTime_notices : (doSetTime c s).2.notices = s.notices := by
  rw [doSetTime]
  split <;> rfl

theorem doClaim_notices : (doClaim c s).2.notices = s.notices := by
  rw [doClaim]
  split
  · exact s.giveLease_notices c.origin
  · split <;> rfl

theorem doYield_notices : (doYield c s).2.notices = s.notices := s.clearLease_notices

end Unchanged

/-! ### Requests that change the notice queue, or may post -/

namespace State.NoticesWithin

variable {s : State}

theorem ackNotices (h : s.NoticesWithin) (c : Call) : (doAckNotices c s).2.NoticesWithin := by
  rw [doAckNotices]
  split
  · exact h
  · exact h.ack _

/-- A new NOTICE_SINK requeues the entries, a new RING_LOW takes the ring-low test (R180). -/
theorem writeParam (h : s.NoticesWithin) (x : Param) (v : Nat) : (s.writeParam x v).NoticesWithin := by
  cases x with
  | noticeSink => exact ite h h.requeue
  | ringLow => exact ringLowTest (s := { s with params := s.params.set .ringLow v }) h
  | noticeResend | noticeLimit | leaseTime | eventDelay | takeoverOrigin => exact h

theorem setParam (h : s.NoticesWithin) (c : Call) : (doSetParam c s).2.NoticesWithin := by
  rw [doSetParam]
  split
  · exact h
  · exact h.writeParam _ _

theorem clearTables (h : s.NoticesWithin) : s.clearTables.NoticesWithin :=
  h.endAll .aborted

theorem clearCaptures (h : s.NoticesWithin) : s.clearCaptures.NoticesWithin :=
  ((h.endAll .aborted).of_notices (State.freeAll_notices _)).ringLowTest

/-- R184, R139: the scope NOTICES empties the queue. -/
theorem clear (h : s.NoticesWithin) (x : Scopes) : (s.clear x).NoticesWithin := by
  have htables : (if x.tables then s.clearTables else s).NoticesWithin := h.clearTables.ite h
  exact ite queueWithin_nil (htables.clearCaptures.ite htables)

theorem clearRequest (h : s.NoticesWithin) (c : Call) : (doClear c s).2.NoticesWithin := by
  rw [doClear]
  split
  · exact h
  · exact h.clear _

theorem force (h : s.NoticesWithin) (c : Call) : (doForce c s).2.NoticesWithin := by
  rw [doForce, withWatch]
  split
  · exact h
  · split
    · exact h.fire _ s.receiver.expected none
    · exact h

theorem abortCapture (h : s.NoticesWithin) (c : Call) : (doAbortCapture c s).2.NoticesWithin := by
  rw [doAbortCapture]
  split
  · exact h
  · split
    · exact h
    · exact h.endCapture _ .aborted

theorem format (h : s.NoticesWithin) (n size : Nat) : (s.format n size).NoticesWithin := by
  refine ringLowTest ?_
  exact h

theorem formatRing (h : s.NoticesWithin) (c : Call) : (doFormatRing c s).2.NoticesWithin := by
  rw [doFormatRing]
  split
  · exact h
  · split
    · exact (h.of_notices s.dropAll_notices).format _ _
    · split
      · exact h.format _ _
      · exact h

theorem freeSegment (h : s.NoticesWithin) (g : Fin 64) : (s.freeSegment g).ringLowTest.NoticesWithin :=
  (h.of_notices (s.freeSegment_notices g)).ringLowTest

/-- A read that releases its segment takes the ring-low test (R115). -/
theorem serveRead (h : s.NoticesWithin) (g : Fin 64) (x : Segment) (offset count room : Nat) :
    (s.serveRead g x offset count room).2.NoticesWithin := by
  have hserved := h.of_notices
    (s.modifySegment_notices g fun _ => x.served (offset + servedCount count room x.fill offset))
  exact ite (hserved.freeSegment g) hserved

theorem readSegment (h : s.NoticesWithin) (c : Call) : (doReadSegment c s).2.NoticesWithin := by
  rw [doReadSegment]
  split
  · exact h
  · split
    · exact h
    · split
      · exact h
      · exact h.serveRead _ _ _ _ _

theorem releaseSegment (h : s.NoticesWithin) (c : Call) : (doReleaseSegment c s).2.NoticesWithin := by
  rw [doReleaseSegment, withSegment]
  split
  · exact h
  · split
    · exact h
    · split
      · exact h
      · exact h.freeSegment _

/-- LEASE_LOST to the former holder (R170). -/
theorem takeover (h : s.NoticesWithin) (c : Call) : (doTakeover c s).2.NoticesWithin := by
  have hgiven := h.of_notices (s.giveLease_notices c.origin)
  rw [doTakeover]
  split
  · exact hgiven
  · split
    · exact h
    · exact hgiven.post .leaseLost _ .address

theorem leaseExpires (h : s.NoticesWithin) : s.leaseExpires.NoticesWithin := by
  rw [State.leaseExpires]
  split
  · exact h
  · exact (h.of_notices s.clearLease_notices).post .leaseLost _ .address

/-! ### The handler -/

theorem execRequest (h : s.NoticesWithin) (k : RequestKind) (c : Call) : (execRequest k c s).2.NoticesWithin := by
  cases k with
  | status | getContexts | renew => exact h
  | ackNotices => exact h.ackNotices c
  | setParam => exact h.setParam c
  | clear => exact h.clearRequest c
  | force => exact h.force c
  | abortCapture => exact h.abortCapture c
  | formatRing => exact h.formatRing c
  | readSegment => exact h.readSegment c
  | releaseSegment => exact h.releaseSegment c
  | takeover => exact h.takeover c
  | getParam => exact h.of_notices (doGetParam_notices c s)
  | readCounters => exact h.of_notices (doReadCounters_notices c s)
  | setHistory => exact h.of_notices (doSetHistory_notices c s)
  | loadWatch => exact h.of_notices (doLoadWatch_notices c s)
  | clearWatch => exact h.of_notices (doClearWatch_notices c s)
  | getWatch => exact h.of_notices (doGetWatch_notices c s)
  | arm => exact h.of_notices (doArm_notices c s)
  | disarm => exact h.of_notices (doDisarm_notices c s)
  | armGroup => exact h.of_notices (doArmGroup_notices c s)
  | disarmGroup => exact h.of_notices (doDisarmGroup_notices c s)
  | loadProfile => exact h.of_notices (doLoadProfile_notices c s)
  | clearProfile => exact h.of_notices (doClearProfile_notices c s)
  | getProfile => exact h.of_notices (doGetProfile_notices c s)
  | segmentInfo => exact h.of_notices (doSegmentInfo_notices c s)
  | scan => exact h.of_notices (doScan_notices c s)
  | setEventEntry => exact h.of_notices (doSetEventEntry_notices c s)
  | getEventEntry => exact h.of_notices (doGetEventEntry_notices c s)
  | setTime => exact h.of_notices (doSetTime_notices c s)
  | claim => exact h.of_notices (doClaim_notices c s)
  | yield => exact h.of_notices (doYield_notices c s)

theorem dispose (h : s.NoticesWithin) (code : BitVec 8) (c : Call) : (s.dispose code c).2.NoticesWithin := by
  rw [State.dispose]
  split
  case h_1 => exact h
  case h_2 k _ =>
    refine of_notices ?_ (State.restartLease_notices _ _ _)
    split
    · exact h
    · split
      · exact h.execRequest k c
      · exact h.of_notices (s.denied_notices k c)

theorem serve (h : s.NoticesWithin) (origin : Addr) (seq code : BitVec 8) (room : Nat) (body : List Word) :
    (s.serve origin seq code room body).2.NoticesWithin := by
  have ht := h.of_notices (s.touchOrigin_notices origin)
  rw [State.serve]
  split
  · exact ht
  · exact (ht.dispose code _).of_notices (State.cacheResponse_notices _ _ _ _)

end State.NoticesWithin

end Sys2Proof.Machine
end

section
/-! Arrivals, commands and steps: the notice queue's invariant after each (R127, R131). -/

namespace Sys2Proof.Machine

/-- A frame command is the arrival of its frame (log 7). -/
theorem exec_of_frameOf {c : Instr} {ws : List Word} (h : frameOf c = some ws) (s : State) :
    exec c s = .next (s.arrive ws) := by
  cases c <;> cases h <;> rfl

namespace State.NoticesWithin

variable {s : State}

/-! ### Arrivals -/

theorem route (h : s.NoticesWithin) (ws : List Word) : (s.route ws).NoticesWithin := by
  rw [State.route]
  split
  case h_1 =>
    refine acceptSweep ?_ _ _ _
    exact h
  case h_2 => exact h
  case h_3 => exact h.serve _ _ _ _ _
  case h_4 =>
    refine eventArrives ?_ _ _
    exact h
  case h_5 =>
    refine eventArrives ?_ _ _
    exact h
  case h_6 => exact loopReset _
  case h_7 => exact loopReset _
  case h_8 => exact h
  case h_9 => exact h.offer
  case h_10 => exact h

theorem arrive (h : s.NoticesWithin) (ws : List Word) : (s.arrive ws).NoticesWithin := by
  rw [State.arrive]
  refine ite h ?_
  split
  · exact h
  · exact (h.huntValid ws).ite (h.damagedArrives ws)
  · exact ite (ite ((h.of_notices s.countValid_notices).route ws) h) (h.damagedArrives ws)

/-! ### Commands -/

/-- Every command has an effect, and it keeps the invariant. -/
theorem exec (h : s.NoticesWithin) (c : Instr) : ∃ t, exec c s = .next t ∧ t.NoticesWithin := by
  cases hframe : frameOf c with
  | some ws => exact ⟨_, exec_of_frameOf hframe s, h.arrive ws⟩
  | none =>
    cases c with
    | powerOnResetRelease straps copied => exact ⟨_, rfl, queueWithin_released⟩
    | resetnFall sent => exact ⟨_, rfl, ite h h⟩
    | sendBreak => exact ⟨_, rfl, ite h h⟩
    | startDelimiter signal => exact ⟨_, rfl, ite h h⟩
    | lossOfSignal => exact ⟨_, rfl, ite h h.enterDown⟩
    | silenceTimerExpiry => exact ⟨_, rfl, ite h h.enterDown⟩
    | resendTimerRunOut number => exact ⟨_, rfl, ite h (h.resendRunsOut number)⟩
    | eventExpiry place => exact ⟨_, rfl, ite h (h.eventExpires place)⟩
    | tinLevelChange line high => exact ⟨_, rfl, h⟩
    | candidateTimerRunOut line => exact ⟨_, rfl, ite h (h.candidateRunsOut line)⟩
    | pulseTimerRunOut line => exact ⟨_, rfl, ite h (h.of_notices (s.pulseRunsOut_notices line))⟩
    | leaseExpiry => exact ⟨_, rfl, ite h h.leaseExpires⟩
    | _ => cases hframe

theorem tick (h : s.NoticesWithin) : s.tick.NoticesWithin :=
  ite h h.map_tick

end State.NoticesWithin

theorem step_noticesWithin {s t : State} (h : s.NoticesWithin) (ht : step s = .next t) : t.NoticesWithin := by
  rw [step] at ht
  split at ht
  case h_1 =>
    cases ht
    exact h.tick
  case h_2 c rest _ =>
    have hnext : State.NoticesWithin { s with pending := rest } := h
    obtain ⟨u, hu, hwithin⟩ := hnext.exec c
    cases hu.symm.trans ht
    exact hwithin

/-- Settles O52: the invariant is one of the queue alone (`QueueWithin`), which postings, sends, removals and the change
of sink keep, and no other operation touches the queue. -/
theorem noticeQueueStaysWithin : Obligations.NoticeQueueStaysWithin := by
  unfold Obligations.NoticeQueueStaysWithin
  intro s t hs ht
  exact t.noticesWithin_iff.1 (step_noticesWithin (s.noticesWithin_iff.2 hs) ht)

end Sys2Proof.Machine
end

section
/-! Event arrivals: the three ways the event unit disposes of an event (R142), the frame that leaves in the EVENT's place
(R12), and the statement about both. -/

namespace Sys2Proof.Machine

/-! ### The outcomes of an arrival at the event unit -/

namespace State

variable {s : State} {code : Fin 16} {immediate : Bool}

/-- R142: nothing delays the event. -/
theorem eventArrives_of_undelayed (h : immediate = true ∨ s.params.eventDelay = 0) :
    s.eventArrives code immediate = s.applyEvent code := by
  rw [eventArrives, if_pos (by simpa using h)]

/-- R142: a delayed event that finds room takes the last place of the pending list. -/
theorem eventArrives_of_room (himm : immediate = false) (hdelay : s.params.eventDelay ≠ 0)
    (hroom : s.events.waiting.length < Config.maxPending) :
    s.eventArrives code immediate = { s with events := { s.events with
      waiting := s.events.waiting ++ [{ code := code, ticks := s.params.eventDelay }] } } := by
  rw [eventArrives, if_neg (by simp [himm, hdelay]), if_pos hroom]

/-- R142: a delayed event that finds four waiting is lost. -/
theorem eventArrives_of_full (himm : immediate = false) (hdelay : s.params.eventDelay ≠ 0)
    (hfull : Config.maxPending ≤ s.events.waiting.length) :
    s.eventArrives code immediate = (s.bump .eventsDropped 1).post .eventDropped code.val .code := by
  rw [eventArrives, if_neg (by simp [himm, hdelay]), if_neg (Nat.not_lt.2 hfull)]

end State

/-! ### The frame that leaves -/

/-- The IDLE that takes a consumed frame's place, word by word (R12, R189). -/
theorem idleFrame_of_padding (n : Nat) :
    idleFrame false (n + 3) = withCrc ([0, 0] ++ List.replicate n 0x8000) := rfl

/-- R12, rows 4 and 5: the arrival of an EVENT that concerns the node is a frame heard, then an event at the event unit. -/
theorem exec_eventArrival {s : State} {h : Header} {padding : List Word} (second : Word) (hh : s.hears)
    (hd : h.dest = 63 ∨ h.dest = s.strap) (hp : padding.length ≤ 261) :
    exec (.eventArrival h second padding) s = .next ((s.heard
      (if h.dest = 63 then withCrc ([headerWord .event h.dest h.src, second] ++ padding)
        else withCrc ([0, 0] ++ List.replicate padding.length 0x8000))).eventArrives
          (Fin.ofNat 16 second.toNat) (second.getLsbD 15)) := by
  rw [exec_of_frameOf (c := .eventArrival h second padding) rfl]
  by_cases hb : h.dest = 63
  · rw [if_pos hb, s.event_broadcast h second padding hh hb hp]
    rfl
  · rw [if_neg hb, s.event_own h second padding hh (hd.resolve_left hb) hp, idleFrame_of_padding]

/-- Settles O32: the frame is heard and leaves as R12 says (`exec_eventArrival`), and the event unit, whose list and delay
the hearing leaves alone, disposes of the event in one of its three ways. -/
theorem eventArrivalDisposed : Obligations.EventArrivalDisposed := by
  unfold Obligations.EventArrivalDisposed
  intro s h second padding hh hd hp frame code
  rw [exec_eventArrival second hh hd hp]
  refine ⟨fun hnow => ?_, fun himm hdelay => ⟨fun hroom => ?_, fun hfull => ?_⟩⟩
  · rw [State.eventArrives_of_undelayed (s := s.heard frame) hnow]
  · rw [State.eventArrives_of_room (s := s.heard frame) himm hdelay hroom]
    rfl
  · rw [State.eventArrives_of_full (s := s.heard frame) himm hdelay hfull]
    rfl

end Sys2Proof.Machine
end

section
/-! Tables entry by entry, and a capture's end spelled out field by field (R75, R93, R96, R107). -/

namespace Sys2Proof.Machine

/-! ### Tables -/

section Tables

variable {α β : Type} {n : Nat}

theorem getElem_setAt (v : Vector α n) (i j : Fin n) (x : α) : (setAt v i x)[j] = if i = j then x else v[j] := by
  simp [setAt, Vector.getElem_set, Fin.ext_iff]

@[simp] theorem getElem_setAt_self (v : Vector α n) (i : Fin n) (x : α) : (setAt v i x)[i] = x := by
  rw [getElem_setAt, if_pos rfl]

theorem getElem_setAt_ne (v : Vector α n) {i j : Fin n} (h : i ≠ j) (x : α) : (setAt v i x)[j] = v[j] := by
  rw [getElem_setAt, if_neg h]

theorem getElem_mapTable (f : Fin n → α → β) (v : Vector α n) (i : Fin n) : (mapTable f v)[i] = f i v[i] := by
  simp [mapTable]

theorem getElem_replicate_fin (x : α) (i : Fin n) : (Vector.replicate n x)[i] = x := by
  simp

theorem table_ext {v w : Vector α n} (h : ∀ i : Fin n, v[i] = w[i]) : v = w :=
  Vector.ext fun i hi => h ⟨i, hi⟩

theorem setAt_setAt (v : Vector α n) (i : Fin n) (x y : α) : setAt (setAt v i x) i y = setAt v i y :=
  table_ext fun j => by
    simp only [getElem_setAt]
    split <;> rfl

@[simp] theorem setAt_getElem_self (v : Vector α n) (i : Fin n) : setAt v i v[i] = v :=
  table_ext fun j => by
    rw [getElem_setAt]
    split
    · subst ‹i = j›
      rfl
    · rfl

theorem mem_indicesWhere {p : α → Bool} {v : Vector α n} {i : Fin n} : i ∈ indicesWhere p v ↔ p v[i] = true := by
  simp [indicesWhere]

end Tables

/-! ### The end of a capture -/

section EndCapture

variable {s : State} {k : Fin 4} {c : Context}

/-- The state at the end of a capture, before its notice and before its context and its watch are let go. -/
def State.recordEnded (s : State) (c : Context) (reason : EndReason) : State :=
  ((s.writeSegment c.segment 0 [c.word0 reason]).complete c.segment reason c.used).bump .capturesDone 1

/-- The same with the notice CAPTURE_DONE, where it is asked for (R93, R96). -/
def State.endNotified (s : State) (c : Context) (reason : EndReason) : State :=
  if c.snapshot.notify && reason != .reset then (s.recordEnded c reason).post .captureDone c.segment.val .segment
  else s.recordEnded c reason

theorem State.endNotified_frame (s : State) (c : Context) (reason : EndReason) :
    s.endNotified c reason = { s.recordEnded c reason with
      notices := (s.endNotified c reason).notices, counters := (s.endNotified c reason).counters } := by
  rw [State.endNotified]
  split
  · rw [State.post_frame]
  · rfl

/-- The watch table after the end step of the watch that a capture refers to (R75). -/
def watchesReleased (v : Vector (Option Watch) 32) (o : Option (Fin 32)) : Vector (Option Watch) 32 :=
  match o with
  | none => v
  | some i => setAt v i (v[i].map Watch.endStep)

theorem State.endStepOf_eq (s : State) (o : Option (Fin 32)) :
    s.endStepOf o = { s with watches := watchesReleased s.watches o } := by
  cases o <;> rfl

theorem State.endCapture_idle (h : s.contexts[k] = none) (reason : EndReason) : s.endCapture k reason = s := by
  rw [State.endCapture, h]

@[simp] theorem State.endNotified_watches (s : State) (c : Context) (reason : EndReason) :
    (s.endNotified c reason).watches = s.watches := by
  rw [State.endNotified_frame]
  rfl

@[simp] theorem State.endNotified_contexts (s : State) (c : Context) (reason : EndReason) :
    (s.endNotified c reason).contexts = s.contexts := by
  rw [State.endNotified_frame]
  rfl

/-- R93 and R75, as one change of the state. -/
theorem State.endCapture_active (h : s.contexts[k] = some c) (reason : EndReason) :
    s.endCapture k reason = { s.endNotified c reason with
      contexts := setAt s.contexts k none
      watches := watchesReleased s.watches c.watchRef } := by
  have heq : s.endCapture k reason = ((s.endNotified c reason).setContext k none).endStepOf c.watchRef := by
    rw [State.endCapture, h]
    rfl
  rw [heq, State.endStepOf_eq]
  simp [State.setContext]

end EndCapture

end Sys2Proof.Machine
end

section
/-! What a step can do, said once: every change that the node's commands make to the blocks is a sequence of moves, each of
which an invariant can be held against on its own. -/

namespace Sys2Proof.Machine

/-! ### Changes that no invariant reads -/

/-- Nothing has changed but the pending mark word, the ring-low latch, the capture sequence counter, the notice unit, the
event unit, the line unit, the counters and the model's own choices. -/
def Quiet (s t : State) : Prop :=
  t = { s with
    port := { s.port with markWord := t.port.markWord }
    captureSeq := t.captureSeq
    ring := { s.ring with low := t.ring.low }
    notices := t.notices
    events := t.events
    lines := t.lines
    counters := t.counters
    script := t.script
    draws := t.draws }

namespace Quiet

variable {s t u : State}

theorem refl (s : State) : Quiet s s := rfl

theorem trans (h : Quiet s t) (h' : Quiet t u) : Quiet s u :=
  Eq.trans h' (by rw [show t = _ from h])

theorem watches (h : Quiet s t) : t.watches = s.watches := by rw [show t = _ from h]

theorem contexts (h : Quiet s t) : t.contexts = s.contexts := by rw [show t = _ from h]

theorem profiles (h : Quiet s t) : t.profiles = s.profiles := by rw [show t = _ from h]

theorem receiver (h : Quiet s t) : t.receiver = s.receiver := by rw [show t = _ from h]

theorem session (h : Quiet s t) : t.session = s.session := by rw [show t = _ from h]

theorem bump (s : State) (c : Counter) (d : Nat) : Quiet s (s.bump c d) := rfl

theorem post (s : State) (kind : NoticeKind) (subject : Nat) (cls : SubjectClass) :
    Quiet s (s.post kind subject cls) := by
  rw [State.post_frame]
  rfl

theorem ringLowTest (s : State) : Quiet s s.ringLowTest := by
  rw [State.ringLowTest_frame]
  rfl

theorem draw (s : State) : Quiet s s.draw.2 := by
  rw [State.draw]
  split <;> rfl

theorem requestMark (s : State) (o : Option (Fin 16)) : Quiet s (s.requestMark o) := by
  cases o with
  | none => rfl
  | some m =>
    rw [State.requestMark]
    split <;> rfl

theorem requestPulse (s : State) (p : PulseLines) : Quiet s (s.requestPulse p) := rfl

theorem setTimeBase (s : State) (v : BitVec 48) : Quiet s (s.setTimeBase v) := rfl

theorem notifyFire (s : State) (i : Fin 32) (c : Contents) : Quiet s (s.notifyFire i c) := by
  rw [State.notifyFire]
  split
  · exact post s _ _ _
  · rfl

theorem notifyFirst (s : State) (c : Contents) : Quiet s (s.notifyFirst c).2 := by
  rw [State.notifyFirst]
  split
  · exact draw s
  · rfl

theorem endOrder (s : State) : Quiet s s.endOrder.2 := by
  rw [State.endOrder]
  split
  · rfl
  · exact draw s

theorem setQueue (s : State) (q : List Notice) : Quiet s (s.setQueue q) := rfl

theorem offer (s : State) : Quiet s s.offer.2 := by
  rw [State.offer]
  split
  · split <;> rfl
  · split
    · split
      · rfl
      · split <;> rfl
    · rfl

theorem resendRunsOut (s : State) (number : BitVec 8) : Quiet s (s.resendRunsOut number) := by
  rw [State.resendRunsOut]
  split
  · rfl
  · split
    · rfl
    · split
      · rfl
      · split <;> rfl

end Quiet

/-! ### Moves -/

/-- A watch entry is replaced and stays FIRED or not FIRED; if the new entry is ARMED, FIRED or in HOLDOFF, its profile is
loaded, or the old one was too and named the same profile. -/
def State.Follows (s : State) (o o' : Option Watch) : Prop :=
  isFired o' = isFired o ∧ ∀ w', o' = some w' → w'.state.holds = true →
    (∀ p, w'.contents.profile = some p → (s.profiles[p]).isSome = true) ∨
      ∃ w, o = some w ∧ w.state.holds = true ∧ w.contents.profile = w'.contents.profile

/-- The state after a granted opening has claimed its context and fired its watch, with the header written (R85, R86). -/
def State.begun (s : State) (ctx : Fin 4) (w : Fin 32) (p : Fin 8) (prof : Profile) (g : Fin 64)
    (trigger : Option Sweep) : State :=
  let c := Context.opened w p prof g (s.captureSeq + 1) trigger
  let t := ({ s with captureSeq := s.captureSeq + 1 }.setContext ctx (some c)).modifyWatch w
    fun x => { x with state := .fired }
  t.writeSegment g 0 (c.header .inProgress t.events.timeBase)

/-- A ring of this format and memory without a record (R103, R122). -/
structure Ring.Emptied (r r' : Ring) : Prop where
  segs : r'.segs = Vector.replicate 64 none
  completed : r'.completed = []
  cursor : r'.cursor = 0
  mem : r'.mem = r.mem

/-- A move of the blocks. `known` is what a move may take for granted about the references of contexts to watches; `may` says
which watches it may change, other than those that are FIRED. -/
inductive Move (known : Prop) (may : Fin 32 → Prop) (s : State) : State → Prop
  | quiet {t : State} (h : Quiet s t) : Move known may s t
  | receiver (rx : Receiver) (hr : s.ReceiverInv → State.ReceiverInv { s with receiver := rx })
      (hp : s.ProfileInv → State.ProfileInv { s with receiver := rx }) : Move known may s { s with receiver := rx }
  | watches (v : Vector (Option Watch) 32) (h : known → ∀ i : Fin 32, s.Follows s.watches[i] v[i])
      (hmay : ∀ i : Fin 32, ¬may i → v[i] = s.watches[i]) : Move known may s { s with watches := v }
  | orphaned (i : Fin 32) (hmay : may i) : Move known may s ((s.modifyWatch i Watch.disarmed).orphan i)
  | profiles (v : Vector (Option Profile) 8) (hp : s.ProfileInv → State.ProfileInv { s with profiles := v })
      (hl : s.LoadedInv → State.LoadedInv { s with profiles := v }) : Move known may s { s with profiles := v }
  | params (p : Params) (h : s.ParamInv → State.ParamInv { s with params := p }) : Move known may s { s with params := p }
  | memory (m : Memory) (h : Memory.wf s.ring.mem → Memory.wf m) :
      Move known may s { s with ring := { s.ring with mem := m } }
  | session (x : Session) (h : s.SessionInv → s.ReadingInv → State.SessionInv { s with session := x } ∧
      State.ReadingInv { s with session := x }) : Move known may s { s with session := x }
  | returned : Move known may s s.readingReturn
  | served (g : Fin 64) (x : Segment) (upTo : Nat) (hx : s.ring.segs[g] = some x) (hfill : upTo ≤ x.fill)
      (hholder : s.session.holder ≠ none) : Move known may s (s.modifySegment g fun _ => x.served upTo)
  | freed (g : Fin 64) (x : Segment) (hx : s.ring.segs[g] = some x) (hstate : x.state.isFilling = false) :
      Move known may s (s.freeSegment g)
  | emptied (r : Ring) (hr : s.ring.Emptied r) (hf : s.FormatInv → State.FormatInv { s with ring := r })
      (hidle : s.RingInv → ∀ k : Fin 4, s.contexts[k] = none) : Move known may s { s with ring := r }
  | discarded (r : Ring) (hr : s.ring.Emptied r) (hf : s.FormatInv → State.FormatInv { s with ring := r })
      (hmay : ∀ i, may i) : Move known may s { s.dropAll with ring := r }
  | ended (k : Fin 4) (reason : EndReason) : Move known may s (s.endCapture k reason)
  | opened {ctx : Fin 4} {w : Fin 32} {p : Fin 8} {prof : Profile} {g : Fin 64} {t : State} (trigger : Option Sweep)
      (hidle : s.contexts[ctx] = none) (hprof : s.profiles[p] = some prof)
      (hgrant : s.allocate ctx (s.captureSeq + 1) prof = some (g, t))
      (harmed : known → isArmed s.watches[w] = true) (hmay : may w) :
      Move known may s (t.begun ctx w p prof g trigger)
  | row {ctx : Fin 4} {c : Context} (values : List Sample) (pre gap : Bool) (hc : s.contexts[ctx] = some c)
      (hfit : s.ProfileInv → s.FormatInv → c.used + c.snapshot.rowSize ≤ s.ring.segSize) :
      Move known may s (s.writeRow ctx c values pre gap)
  | retimed {ctx : Fin 4} {c : Context} (trigger due : Option Sweep) (hc : s.contexts[ctx] = some c) :
      Move known may s (s.setContext ctx (some { c with trigger := trigger, nextDue := due }))

/-- A sequence of moves. -/
abbrev Moves (known : Prop) (may : Fin 32 → Prop) : State → State → Prop :=
  Relation.ReflTransGen (Move known may)

section

variable {known : Prop} {may may' : Fin 32 → Prop} {s t u : State}

theorem Move.moves (h : Move known may s t) : Moves known may s t := .single h

theorem Quiet.moves (h : Quiet s t) : Moves known may s t := .single (.quiet h)

/-- What every move keeps, every sequence of moves keeps. -/
theorem Moves.keep {P : State → Prop} (h : Moves known may s t)
    (hmove : ∀ {s t : State}, Move known may s t → P s → P t) (hs : P s) : P t := by
  induction h with
  | refl => exact hs
  | tail _ hlast ih => exact hmove hlast ih

theorem Move.mono (h : Move known may s t) (hmay : ∀ i, may i → may' i) : Move known may' s t := by
  cases h with
  | quiet h => exact .quiet h
  | receiver rx hr hp => exact .receiver rx hr hp
  | watches v h hm => exact .watches v h fun i hi => hm i (mt (hmay i) hi)
  | orphaned i hm => exact .orphaned i (hmay i hm)
  | profiles v hp hl => exact .profiles v hp hl
  | params p h => exact .params p h
  | memory m h => exact .memory m h
  | session x h => exact .session x h
  | returned => exact .returned
  | served g x n hx hf hh => exact .served g x n hx hf hh
  | freed g x hx hs => exact .freed g x hx hs
  | emptied r hr hf hi => exact .emptied r hr hf hi
  | discarded r hr hf hm => exact .discarded r hr hf fun i => hmay i (hm i)
  | ended k reason => exact .ended k reason
  | opened trigger hi hp hg ha hm => exact .opened trigger hi hp hg ha (hmay _ hm)
  | row values pre gap hc hf => exact .row values pre gap hc hf
  | retimed trigger due hc => exact .retimed trigger due hc

theorem Moves.mono (h : Moves known may s t) (hmay : ∀ i, may i → may' i) : Moves known may' s t :=
  Relation.ReflTransGen.mono (fun _ _ hm => hm.mono hmay) _ _ h

/-- Operations one after another. -/
theorem Moves.foldl {α : Type} {f : State → α → State} (l : List α)
    (hf : ∀ (t : State) (x : α), x ∈ l → Moves known may t (f t x)) (s : State) : Moves known may s (l.foldl f s) :=
  List.foldlRecOn (motive := fun t => Moves known may s t) l f .refl fun t ht x hx => ht.trans (hf t x hx)

theorem Moves.ite {p : Prop} [Decidable p] (ht : p → Moves known may s t) (hu : ¬p → Moves known may s u) :
    Moves known may s (if p then t else u) := by
  split
  · exact ht ‹p›
  · exact hu ‹¬p›

end

end Sys2Proof.Machine
end

section
/-! The capture engine's operations as moves: rows, openings and the ends of captures (chapter 5). -/

namespace Sys2Proof.Machine

variable {known : Prop} {may : Fin 32 → Prop}

/-! ### Rows -/

/-- The segment size leaves room for one row more after the pre rows that an opening keeps (R88). -/
theorem preRoom_fits {size r n : Nat} (hsize : 64 ≤ size) (hpos : 1 ≤ r) (hr : r ≤ 8) (hn : n ≤ preRoom size r) :
    Config.headerWords + (n + 1) * r ≤ size := by
  have hlt : n + 1 ≤ (size - 12) / r := by
    have hbig : 1 ≤ (size - 12) / r := (Nat.one_le_div_iff hpos).2 (by omega)
    rw [preRoom, Config.headerWords] at hn
    omega
  have hmul := (Nat.le_div_iff_mul_le hpos).1 hlt
  rw [Config.headerWords]
  omega

theorem length_trimRows_le (room : Nat) (rows : List Row) : (trimRows room rows).length ≤ room := by
  rw [trimRows, List.length_drop]
  omega

/-- A loaded profile has rows of 1 to 8 words (R77). -/
theorem State.ProfileInv.rowSize_bounds {s : State} (h : s.ProfileInv) {i : Fin 8} {p : Profile}
    (hp : s.profiles[i] = some p) : 1 ≤ p.rowSize ∧ p.rowSize ≤ 8 := by
  obtain ⟨hlow, hhigh, -⟩ := h i p hp
  rw [Profile.rowSize]
  omega

theorem State.ProfileInv.of_stores {s t : State} (h : s.ProfileInv) (hprofiles : t.profiles = s.profiles)
    (hreceiver : t.receiver = s.receiver) : t.ProfileInv := by
  rw [State.ProfileInv, hprofiles, hreceiver]
  exact h

theorem State.FormatInv.of_ring {s t : State} (h : s.FormatInv) (hcount : t.ring.segCount = s.ring.segCount)
    (hsize : t.ring.segSize = s.ring.segSize) (hcursor : t.ring.cursor = s.ring.cursor) : t.FormatInv where
  count := hcount ▸ h.count
  size := hsize ▸ h.size
  fits := by rw [hcount, hsize]; exact h.fits
  cursor := by rw [hcursor, hcount]; exact h.cursor

/-- A capture's context after rows that come before its trigger row (R91). -/
def Context.withPreRows (c : Context) (rows : List Row) : Context :=
  { c with
    pre := c.pre + rows.length
    gap := c.gap + rows.countP fun row => row.kind == .missing
    used := c.used + rows.length * c.snapshot.rowSize }

/-- Everything but contexts, records and capture memory stays as it is. -/
def SameButRows (s t : State) : Prop :=
  t = { s with
    contexts := t.contexts
    ring := { s.ring with mem := t.ring.mem, segs := t.ring.segs } }

namespace SameButRows

variable {s t u : State}

theorem trans (h : SameButRows s t) (h' : SameButRows t u) : SameButRows s u :=
  Eq.trans h' (by rw [show t = _ from h])

theorem watches (h : SameButRows s t) : t.watches = s.watches := by rw [show t = _ from h]

theorem profiles (h : SameButRows s t) : t.profiles = s.profiles := by rw [show t = _ from h]

theorem receiver (h : SameButRows s t) : t.receiver = s.receiver := by rw [show t = _ from h]

theorem segSize (h : SameButRows s t) : t.ring.segSize = s.ring.segSize := by rw [show t = _ from h]

theorem segCount (h : SameButRows s t) : t.ring.segCount = s.ring.segCount := by rw [show t = _ from h]

theorem cursor (h : SameButRows s t) : t.ring.cursor = s.ring.cursor := by rw [show t = _ from h]

theorem writeRow (s : State) (ctx : Fin 4) (c : Context) (values : List Sample) (pre gap : Bool) :
    SameButRows s (s.writeRow ctx c values pre gap) := by
  simp [SameButRows, State.writeRow, State.setContext, State.modifySegment, State.writeSegment]

end SameButRows

section Rows

variable {s : State} {ctx : Fin 4} {c : Context}

theorem State.addRow_active (h : s.contexts[ctx] = some c) (values : List Sample) (pre gap : Bool) :
    s.addRow ctx values pre gap = s.writeRow ctx c values pre gap := by
  rw [State.addRow, h]

@[simp] theorem State.writeRow_contexts (values : List Sample) (pre gap : Bool) :
    (s.writeRow ctx c values pre gap).contexts = setAt s.contexts ctx (some (c.withRow pre gap)) := by
  simp [State.writeRow]

theorem Context.withRow_pre (c : Context) (gap : Bool) :
    c.withRow true gap = { c with
      pre := c.pre + 1, gap := if gap then c.gap + 1 else c.gap, used := c.used + c.snapshot.rowSize } := rfl

theorem Context.withPreRows_cons (c : Context) (row : Row) (rows : List Row) :
    (c.withRow true (row.kind == .missing)).withPreRows rows = c.withPreRows (row :: rows) := by
  simp only [Context.withRow_pre, Context.withPreRows, List.length_cons, List.countP_cons, Context.mk.injEq, true_and]
  refine ⟨by omega, ?_, by rw [Nat.add_mul]; omega⟩
  split <;> omega

theorem State.writePreRows_cons (row : Row) (rows : List Row) (hc : s.contexts[ctx] = some c) :
    s.writePreRows ctx (row :: rows) =
      (s.writeRow ctx c row.values true (row.kind == .missing)).writePreRows ctx rows := by
  rw [← State.addRow_active hc]
  rfl

/-- The pre rows are moves where all of them fit; they leave the context of `Context.withPreRows`. -/
theorem State.writePreRows_moves (rows : List Row) (hc : s.contexts[ctx] = some c)
    (hfit : s.ProfileInv → s.FormatInv → c.used + rows.length * c.snapshot.rowSize ≤ s.ring.segSize) :
    Moves known may s (s.writePreRows ctx rows) := by
  induction rows generalizing s c with
  | nil => exact .refl
  | cons row rows ih =>
    rw [List.length_cons, Nat.add_mul] at hfit
    have hstep : Move known may s (s.writeRow ctx c row.values true (row.kind == .missing)) :=
      .row _ _ _ hc fun hp hf => by have := hfit hp hf; omega
    have hsame := SameButRows.writeRow s ctx c row.values true (row.kind == .missing)
    have hctx := State.writeRow_contexts (s := s) (ctx := ctx) (c := c) row.values true (row.kind == .missing)
    rw [State.writePreRows_cons row rows hc]
    generalize s.writeRow ctx c row.values true (row.kind == .missing) = t at hstep hsame hctx ⊢
    refine hstep.moves.trans (ih (by rw [hctx, getElem_setAt_self]) fun hp hf => ?_)
    have := hfit (State.ProfileInv.of_stores hp hsame.profiles.symm hsame.receiver.symm)
      (hf.of_ring hsame.segCount.symm hsame.segSize.symm hsame.cursor.symm)
    rw [hsame.segSize, Context.withRow_pre]
    dsimp only
    omega

/-- Pre rows change their context, their segment and capture memory. -/
theorem State.writePreRows_frame (rows : List Row) (hc : s.contexts[ctx] = some c) :
    SameButRows s (s.writePreRows ctx rows) := by
  induction rows generalizing s c with
  | nil => rfl
  | cons row rows ih =>
    rw [State.writePreRows_cons row rows hc]
    exact (SameButRows.writeRow s ctx c _ _ _).trans (ih (by rw [State.writeRow_contexts, getElem_setAt_self]))

theorem State.writePreRows_contexts (rows : List Row) (hc : s.contexts[ctx] = some c) :
    (s.writePreRows ctx rows).contexts = setAt s.contexts ctx (some (c.withPreRows rows)) := by
  induction rows generalizing s c with
  | nil =>
    rw [show c.withPreRows [] = c by simp [Context.withPreRows], ← hc, setAt_getElem_self]
    rfl
  | cons row rows ih =>
    rw [State.writePreRows_cons row rows hc, ih (by rw [State.writeRow_contexts, getElem_setAt_self]),
      Context.withPreRows_cons, State.writeRow_contexts, setAt_setAt]

end Rows

/-! ### The ends of captures -/

theorem State.endAll_moves (s : State) (reason : EndReason) : Moves known may s (s.endAll reason) :=
  (Quiet.endOrder s).moves.trans (Moves.foldl _ (fun _ k _ => (Move.ended k reason).moves) _)

/-- After a post row: the next due sweep moves on, and a complete capture ends (R89, R90). -/
theorem State.afterPostRow_moves (s : State) (ctx : Fin 4) (due : Sweep) :
    Moves known may s (s.afterPostRow ctx due) := by
  rw [State.afterPostRow]
  split
  case h_1 => exact .refl
  case h_2 c hc =>
    have hdue : Move known may s _ := .retimed c.trigger (some (due + BitVec.ofNat 16 c.snapshot.decimation)) hc
    exact hdue.moves.trans (Moves.ite (fun _ => (Move.ended ctx .complete).moves) fun _ => .refl)

/-- One covered sweep (R90): its row is written only where it fits. -/
theorem State.coverSweep_moves (s : State) (ctx : Fin 4) (a : Arrival) (x : Sweep × Bool) :
    Moves known may s (s.coverSweep ctx a x) := by
  rw [State.coverSweep]
  split
  case h_1 => exact .refl
  case h_2 c hc =>
    refine Moves.ite (fun _ => Moves.ite (fun _ => (Move.ended ctx .truncated).moves) fun hroom => ?_) fun _ => .refl
    exact (Move.row _ _ _ hc fun _ _ => Nat.not_lt.1 hroom).moves.trans (State.afterPostRow_moves _ _ _)

theorem State.learnTrigger_moves (s : State) (ctx : Fin 4) (a : Arrival) : Moves known may s (s.learnTrigger ctx a) := by
  rw [State.learnTrigger]
  split
  case h_1 => exact .refl
  case h_2 c hc =>
    split
    case h_1 => exact .refl
    case h_2 =>
      have hword : Move known may s (s.writeSegment c.segment 1
          [({ c with trigger := some a.number, nextDue := some a.number } : Context).word1]) :=
        .memory _ (Memory.writeAll_wf _ _ _)
      exact hword.moves.tail (.retimed (some a.number) (some a.number) hc)

theorem State.takeArrival_moves (s : State) (ctx : Fin 4) (a : Arrival) : Moves known may s (s.takeArrival ctx a) :=
  (s.learnTrigger_moves ctx a).trans (Moves.foldl _ (fun t x _ => t.coverSweep_moves ctx a x) _)

theorem State.takeAll_moves (s : State) (a : Arrival) (cs : List (Fin 4)) : Moves known may s (s.takeAll a cs) :=
  Moves.foldl _ (fun t c _ => t.takeArrival_moves c a) _

/-! ### Openings -/

section Openings

variable {s t : State} {ctx : Fin 4} {w : Fin 32} {p : Fin 8} {prof : Profile} {g : Fin 64} {i : Fin 32}

/-- A change of one watch that keeps what contexts and profiles ask of it. -/
theorem Move.watch {f : Watch → Watch} (hmay : may i)
    (hf : known → s.Follows s.watches[i] (s.watches[i].map f)) : Move known may s (s.modifyWatch i f) := by
  refine .watches _ (fun hk j => ?_) fun j hj => ?_
  · rw [getElem_setAt]
    split
    · subst ‹i = j›
      exact hf hk
    · exact ⟨rfl, fun w' hw' hs => .inr ⟨w', hw', hs, rfl⟩⟩
  · exact getElem_setAt_ne _ (by rintro rfl; exact hj hmay) _

/-- A change of one watch that is neither FIRED before nor after and holds no new profile. -/
theorem Move.unfiredWatch {f : Watch → Watch} (hmay : may i)
    (hprofile : ∀ w, (f w).contents.profile = w.contents.profile)
    (hf : known → ∀ w, s.watches[i] = some w →
      w.state ≠ .fired ∧ (f w).state ≠ .fired ∧ ((f w).state.holds = true → w.state.holds = true)) :
    Move known may s (s.modifyWatch i f) := by
  refine .watch hmay fun hk => ?_
  have hcase := hf hk
  cases hw : s.watches[i] with
  | none => exact ⟨rfl, fun w' hw' => by cases hw'⟩
  | some w =>
    obtain ⟨hbefore, hafter, hholds⟩ := hcase w hw
    refine ⟨by simp [isFired, hbefore, hafter], fun w' hw' hs => ?_⟩
    cases hw'
    exact .inr ⟨w, rfl, hholds hs, (hprofile w).symm⟩

/-- A change of a watch's runtime only. -/
theorem Move.runtime {f : Watch → Watch} (hmay : may i) (hstate : ∀ w, (f w).state = w.state)
    (hcontents : ∀ w, (f w).contents = w.contents) : Move known may s (s.modifyWatch i f) := by
  refine .watch hmay fun _ => ⟨?_, fun w' hw' hs => ?_⟩
  · cases s.watches[i] with
    | none => rfl
    | some w => simp [isFired, hstate w]
  · obtain ⟨w, hw, rfl⟩ := Option.map_eq_some_iff.1 hw'
    exact .inr ⟨w, hw, by rw [← hstate w, hs], by rw [hcontents w]⟩

theorem isArmed_iff {o : Option Watch} : isArmed o = true ↔ ∃ w, o = some w ∧ w.state = .armed := by
  cases o <;> simp [isArmed]

theorem isFired_iff {o : Option Watch} : isFired o = true ↔ ∃ w, o = some w ∧ w.state = .fired := by
  cases o <;> simp [isFired]

theorem not_fired_of_armed {o : Option Watch} (h : isArmed o = true) : isFired o = false := by
  obtain ⟨w, rfl, hw⟩ := isArmed_iff.1 h
  simp [isFired, hw]

theorem Watch.rearmed_state (w : Watch) : w.rearmed.state = .spent ∨ w.rearmed.state = .armed := by
  rw [Watch.rearmed]
  split <;> simp

@[simp] theorem Watch.rearmed_contents (w : Watch) : w.rearmed.contents = w.contents := by
  rw [Watch.rearmed]
  split <;> rfl

/-- The end step leaves the watch in HOLDOFF, SPENT or ARMED (R71). -/
theorem Watch.endStep_state_ne_fired (w : Watch) : w.endStep.state ≠ .fired := by
  rw [Watch.endStep]
  split
  · simp
  · obtain h | h := w.rearmed_state <;> simp [h]

@[simp] theorem Watch.endStep_contents (w : Watch) : w.endStep.contents = w.contents := by
  rw [Watch.endStep]
  split <;> simp

/-- The end step of an ARMED watch. -/
theorem Move.endStep (hmay : may i) (harmed : known → isArmed s.watches[i] = true) :
    Move known may s (s.modifyWatch i Watch.endStep) := by
  refine .unfiredWatch hmay (fun w => by rw [Watch.endStep_contents]) fun hk w hw => ?_
  obtain ⟨x, hx, hs⟩ := isArmed_iff.1 (harmed hk)
  cases hw.symm.trans hx
  rw [hs]
  exact ⟨by decide, w.endStep_state_ne_fired, fun _ => rfl⟩

/-- R85 and R70. -/
theorem State.captureLost_moves (hmay : may w) (harmed : known → isArmed s.watches[w] = true) :
    Moves known may s (s.captureLost w) :=
  ((Quiet.bump s .capturesLost 1).trans (Quiet.post _ .captureLost w.val .watch)).moves.tail
    (.endStep hmay (by simpa using harmed))

theorem State.openGranted_eq (s : State) (ctx : Fin 4) (w : Fin 32) (p : Fin 8) (prof : Profile) (g : Fin 64)
    (trigger : Option Sweep) (o : Option Arrival) :
    s.openGranted ctx w p prof g trigger o =
      ((s.begun ctx w p prof g trigger).writePreRows ctx
        ((s.begun ctx w p prof g trigger).openingRows prof trigger)).triggerRow ctx prof o := rfl

@[simp] theorem State.begun_contexts (s : State) (trigger : Option Sweep) :
    (s.begun ctx w p prof g trigger).contexts =
      setAt s.contexts ctx (some (Context.opened w p prof g (s.captureSeq + 1) trigger)) := rfl

/-- The pre rows of an opening leave room for one row more. -/
theorem State.openingRows_fit (hsize : 64 ≤ s.ring.segSize) (hrow : 1 ≤ prof.rowSize ∧ prof.rowSize ≤ 8)
    (trigger : Option Sweep) :
    Config.headerWords + ((s.openingRows prof trigger).length + 1) * prof.rowSize ≤ s.ring.segSize := by
  refine preRoom_fits hsize hrow.1 hrow.2 ?_
  cases trigger with
  | none => exact Nat.zero_le _
  | some n => exact length_trimRows_le _ _

theorem State.allocate_profiles {sequence : BitVec 32} (h : s.allocate ctx sequence prof = some (g, t)) :
    t.profiles = s.profiles := by
  rw [State.allocate] at h
  split at h
  · cases h
    simp [State.grant]
  · split at h
    · cases h
    · split at h
      · cases h
      · cases h
        simp [State.grant]

/-- The opening of a capture: its segment is granted and its header written, then its rows (R84 to R89). -/
theorem State.openGranted_moves (trigger : Option Sweep) (o : Option Arrival) (hidle : s.contexts[ctx] = none)
    (hprof : s.profiles[p] = some prof) (hgrant : s.allocate ctx (s.captureSeq + 1) prof = some (g, t))
    (harmed : known → isArmed s.watches[w] = true) (hmay : may w) :
    Moves known may s (t.openGranted ctx w p prof g trigger o) := by
  rw [State.openGranted_eq]
  have hprofiles := State.allocate_profiles hgrant
  have hbegun : Move known may s (t.begun ctx w p prof g trigger) := .opened trigger hidle hprof hgrant harmed hmay
  generalize hu : t.begun ctx w p prof g trigger = u at hbegun
  have huprof : u.profiles[p] = some prof := by
    subst hu
    exact hprofiles ▸ hprof
  have huctx : u.contexts[ctx] = some (Context.opened w p prof g (t.captureSeq + 1) trigger) := by
    subst hu
    rw [State.begun_contexts, getElem_setAt_self]
  have hfit (hp : u.ProfileInv) (hf : u.FormatInv) :=
    State.openingRows_fit (s := u) hf.size.1 (hp.rowSize_bounds huprof) trigger
  generalize u.openingRows prof trigger = rows at hfit ⊢
  have hrows : Moves known may u (u.writePreRows ctx rows) := by
    refine State.writePreRows_moves rows huctx fun hp hf => ?_
    have := hfit hp hf
    rw [Nat.add_mul] at this
    simp only [Context.opened]
    omega
  refine (hbegun.moves.trans hrows).trans ?_
  cases o with
  | none => exact .refl
  | some a =>
    have hframe := State.writePreRows_frame rows huctx
    have hlast : (u.writePreRows ctx rows).contexts[ctx] =
        some ((Context.opened w p prof g (t.captureSeq + 1) trigger).withPreRows rows) := by
      rw [State.writePreRows_contexts rows huctx, getElem_setAt_self]
    rw [State.triggerRow, State.addRow_active hlast]
    refine (Move.row _ _ _ hlast fun hp hf => ?_).moves.trans (State.afterPostRow_moves _ _ _)
    have := hfit (State.ProfileInv.of_stores hp hframe.profiles.symm hframe.receiver.symm)
      (hf.of_ring hframe.segCount.symm hframe.segSize.symm hframe.cursor.symm)
    rw [hframe.segSize]
    rw [Nat.add_mul] at this
    simp only [Context.withPreRows, Context.opened]
    omega

theorem State.openCapture_moves (trigger : Option Sweep) (o : Option Arrival) (hidle : s.contexts[ctx] = none)
    (harmed : known → isArmed s.watches[w] = true) (hmay : may w) :
    Moves known may s (s.openCapture ctx w p trigger o).2 := by
  rw [State.openCapture]
  split
  · exact State.captureLost_moves hmay harmed
  · split
    · exact State.captureLost_moves hmay harmed
    · exact State.openGranted_moves trigger o hidle ‹_› ‹_› harmed hmay

end Openings

end Sys2Proof.Machine
end

section
/-! A watch is FIRED exactly when one context refers to it (R37): the invariant read off the tables, and that every move
keeps it. -/

namespace Sys2Proof.Machine

variable {known : Prop} {may : Fin 32 → Prop} {s t : State}

/-! ### The segment that an opening is given -/

/-- Everything an allocation can do (R108, R109). -/
theorem State.allocate_cases {ctx : Fin 4} {sequence : BitVec 32} {prof : Profile} {g : Fin 64}
    (h : s.allocate ctx sequence prof = some (g, t)) :
    (s.ring.segs[g] = none ∧ g ∈ s.ring.fromCursor ∧ t = (s.grant g ctx sequence prof.autoRelease).ringLowTest) ∨
    (s.ring.isFull g = true ∧ g ∈ s.ring.completed ∧
      t = (((s.unlist g).bump .capturesLost 1).post .captureLost g.val .segment).grant g ctx sequence
        prof.autoRelease) := by
  rw [State.allocate] at h
  split at h
  case h_1 hfind =>
    cases h
    exact .inl ⟨Option.isNone_iff_eq_none.1 (by simpa using List.find?_some hfind), List.mem_of_find?_eq_some hfind, rfl⟩
  case h_2 =>
    split at h
    · cases h
    · split at h
      · cases h
      · rename_i hfind
        cases h
        exact .inr ⟨List.find?_some hfind, List.mem_of_find?_eq_some hfind, rfl⟩

/-- An allocation touches the ring, the notice unit and the counters. -/
theorem State.allocate_frame {ctx : Fin 4} {sequence : BitVec 32} {prof : Profile} {g : Fin 64}
    (h : s.allocate ctx sequence prof = some (g, t)) :
    t = { s with ring := t.ring, notices := t.notices, counters := t.counters } := by
  obtain ⟨-, -, rfl⟩ | ⟨-, -, rfl⟩ := State.allocate_cases h
  · rw [State.ringLowTest_frame]
    rfl
  · rw [State.post_frame]
    rfl

/-! ### References -/

/-- The watch that a context refers to, if it is ACTIVE and refers to one. -/
def State.refOf (s : State) (k : Fin 4) : Option (Fin 32) := (s.contexts[k]).bind Context.watchRef

theorem State.refOf_eq_some {k : Fin 4} {i : Fin 32} :
    s.refOf k = some i ↔ ∃ c, s.contexts[k] = some c ∧ c.watchRef = some i := Option.bind_eq_some_iff

theorem State.referenceInv_iff (s : State) :
    s.ReferenceInv ↔ (∀ i : Fin 32, isFired s.watches[i] = true ↔ ∃ k, s.refOf k = some i) ∧
      ∀ (k l : Fin 4) (i : Fin 32), s.refOf k = some i → s.refOf l = some i → k = l := by
  constructor
  · rintro ⟨fired, loaded, apart⟩
    refine ⟨fun i => ⟨fun h => ?_, fun ⟨k, hk⟩ => ?_⟩, fun k l i hk hl => ?_⟩
    · obtain ⟨w, hw, hs⟩ := isFired_iff.1 h
      obtain ⟨k, c, hc, hr⟩ := (fired i w hw).1 hs
      exact ⟨k, State.refOf_eq_some.2 ⟨c, hc, hr⟩⟩
    · obtain ⟨c, hc, hr⟩ := State.refOf_eq_some.1 hk
      obtain ⟨w, hw⟩ := Option.isSome_iff_exists.1 (loaded k c i hc hr)
      exact isFired_iff.2 ⟨w, hw, (fired i w hw).2 ⟨k, c, hc, hr⟩⟩
    · obtain ⟨c, hc, hcr⟩ := State.refOf_eq_some.1 hk
      obtain ⟨d, hd, hdr⟩ := State.refOf_eq_some.1 hl
      exact apart k l c d i hc hd hcr hdr
  · rintro ⟨fired, apart⟩
    refine ⟨fun i w hw => ?_, fun k c i hc hr => ?_, fun k l c d i hc hd hcr hdr => ?_⟩
    · have hi := fired i
      rw [hw] at hi
      simpa [isFired, State.refOf_eq_some] using hi
    · obtain ⟨w, hw, -⟩ := isFired_iff.1 ((fired i).2 ⟨k, State.refOf_eq_some.2 ⟨c, hc, hr⟩⟩)
      rw [hw]
      rfl
    · exact apart k l i (State.refOf_eq_some.2 ⟨c, hc, hcr⟩) (State.refOf_eq_some.2 ⟨d, hd, hdr⟩)

theorem State.ReferenceInv.congr (h : s.ReferenceInv) (hfired : ∀ i : Fin 32, isFired t.watches[i] = isFired s.watches[i])
    (href : ∀ k, t.refOf k = s.refOf k) : t.ReferenceInv := by
  rw [State.referenceInv_iff] at h ⊢
  simpa only [hfired, href] using h

theorem State.ReferenceInv.of_tables (h : s.ReferenceInv) (hw : t.watches = s.watches)
    (hc : t.contexts = s.contexts) : t.ReferenceInv :=
  h.congr (fun i => by rw [hw]) fun k => by rw [State.refOf, State.refOf, hc]

/-- One context is replaced by one that refers to the same watch. -/
theorem State.ReferenceInv.setContext (h : s.ReferenceInv) (hw : t.watches = s.watches) {k : Fin 4} {c d : Context}
    (hc : s.contexts[k] = some c) (ht : t.contexts = setAt s.contexts k (some d)) (hd : d.watchRef = c.watchRef) :
    t.ReferenceInv := by
  refine h.congr (fun i => by rw [hw]) fun l => ?_
  rw [State.refOf, ht, getElem_setAt]
  split
  · subst l
    rw [State.refOf, hc]
    exact hd
  · rfl

/-- A context is let go, and the watch it refers to is no longer FIRED. -/
theorem State.ReferenceInv.release (h : s.ReferenceInv) (k : Fin 4)
    (hfired : ∀ i : Fin 32, isFired t.watches[i] = if s.refOf k = some i then false else isFired s.watches[i])
    (href : ∀ l, t.refOf l = if k = l then none else s.refOf l) : t.ReferenceInv := by
  rw [State.referenceInv_iff] at h ⊢
  obtain ⟨fired, apart⟩ := h
  refine ⟨fun i => ?_, fun l m i hl hm => ?_⟩
  · simp only [hfired, href]
    split
    case isTrue hk =>
      refine iff_of_false Bool.false_ne_true fun ⟨l, hl⟩ => ?_
      split at hl
      · cases hl
      · exact ‹¬k = l› (apart k l i hk hl)
    case isFalse hk =>
      rw [fired]
      refine ⟨fun ⟨l, hl⟩ => ⟨l, ?_⟩, fun ⟨l, hl⟩ => ⟨l, ?_⟩⟩
      · rw [if_neg (by rintro rfl; exact hk hl)]
        exact hl
      · split at hl
        · cases hl
        · exact hl
  · rw [href] at hl hm
    split at hl
    · cases hl
    · split at hm
      · cases hm
      · exact apart l m i hl hm

theorem isFired_watchesReleased (v : Vector (Option Watch) 32) (o : Option (Fin 32)) (i : Fin 32) :
    isFired (watchesReleased v o)[i] = if o = some i then false else isFired v[i] := by
  cases o with
  | none => rfl
  | some j =>
    rw [watchesReleased, getElem_setAt]
    by_cases hj : j = i
    · subst hj
      rw [if_pos rfl, if_pos rfl]
      cases v[j] with
      | none => rfl
      | some w => simpa [isFired] using w.endStep_state_ne_fired
    · rw [if_neg hj, if_neg (by simpa using hj)]

theorem State.refOf_setContext {v : Vector (Option Context) 4} {k : Fin 4} {o : Option Context}
    (ht : t.contexts = setAt v k o) (l : Fin 4) :
    t.refOf l = if k = l then o.bind Context.watchRef else (v[l]).bind Context.watchRef := by
  rw [State.refOf, ht, getElem_setAt]
  split <;> rfl

theorem State.ReferenceInv.endCapture (h : s.ReferenceInv) (k : Fin 4) (reason : EndReason) :
    (s.endCapture k reason).ReferenceInv := by
  cases hc : s.contexts[k] with
  | none => rwa [State.endCapture_idle hc]
  | some c =>
    rw [State.endCapture_active hc]
    refine h.release k (fun i => ?_) fun l => ?_
    · rw [State.refOf, hc]
      exact isFired_watchesReleased _ _ _
    · exact State.refOf_setContext (v := s.contexts) (o := none) rfl l

theorem State.dropCapture_active {k : Fin 4} {c : Context} (hc : s.contexts[k] = some c) :
    s.dropCapture k = { s with
      contexts := setAt s.contexts k none
      watches := watchesReleased s.watches c.watchRef } := by
  rw [State.dropCapture, hc]
  exact State.endStepOf_eq _ _

theorem State.dropCapture_idle {k : Fin 4} (hc : s.contexts[k] = none) : s.dropCapture k = s := by
  rw [State.dropCapture, hc]

theorem State.ReferenceInv.dropCapture (h : s.ReferenceInv) (k : Fin 4) : (s.dropCapture k).ReferenceInv := by
  cases hc : s.contexts[k] with
  | none => rwa [State.dropCapture_idle hc]
  | some c =>
    rw [State.dropCapture_active hc]
    refine h.release k (fun i => ?_) fun l => ?_
    · rw [State.refOf, hc]
      exact isFired_watchesReleased _ _ _
    · exact State.refOf_setContext (v := s.contexts) (o := none) rfl l

theorem State.ReferenceInv.dropAll (h : s.ReferenceInv) : s.dropAll.ReferenceInv :=
  List.foldlRecOn (motive := State.ReferenceInv) _ _ h fun _ ht k _ => ht.dropCapture k

/-- DISARM of a FIRED watch (R45, R46). -/
theorem State.ReferenceInv.orphaned (h : s.ReferenceInv) (i : Fin 32) :
    ((s.modifyWatch i Watch.disarmed).orphan i).ReferenceInv := by
  rw [State.referenceInv_iff] at h ⊢
  obtain ⟨fired, apart⟩ := h
  have href (k : Fin 4) : ((s.modifyWatch i Watch.disarmed).orphan i).refOf k =
      if s.refOf k = some i then none else s.refOf k := by
    rw [State.refOf, State.refOf, State.orphan_contexts, getElem_mapTable, State.modifyWatch_contexts]
    cases s.contexts[k] <;> rfl
  have hfired (j : Fin 32) : isFired ((s.modifyWatch i Watch.disarmed).orphan i).watches[j] =
      if i = j then false else isFired s.watches[j] := by
    rw [State.orphan_watches, State.modifyWatch_watches, getElem_setAt]
    split
    · cases s.watches[i] <;> rfl
    · rfl
  refine ⟨fun j => ?_, fun k l j hk hl => ?_⟩
  · simp only [href, hfired]
    split
    case isTrue hij =>
      subst hij
      simp
    case isFalse hij =>
      rw [fired]
      refine exists_congr fun k => ?_
      split
      · simp_all
      · rfl
  · rw [href] at hk hl
    split at hk
    · cases hk
    · split at hl
      · cases hl
      · exact apart k l j hk hl

/-- An opening: an IDLE context takes an ARMED watch, which becomes FIRED (R85). -/
theorem State.ReferenceInv.begun (h : s.ReferenceInv) {ctx : Fin 4} {w : Fin 32} {p : Fin 8} {prof : Profile}
    {g : Fin 64} (trigger : Option Sweep) (hidle : s.contexts[ctx] = none) (harmed : isArmed s.watches[w] = true) :
    (s.begun ctx w p prof g trigger).ReferenceInv := by
  rw [State.referenceInv_iff] at h ⊢
  obtain ⟨fired, apart⟩ := h
  have href (k : Fin 4) : (s.begun ctx w p prof g trigger).refOf k = if ctx = k then some w else s.refOf k :=
    State.refOf_setContext (v := s.contexts)
      (o := some (Context.opened w p prof g (s.captureSeq + 1) trigger)) rfl k
  have hfired (i : Fin 32) : isFired (s.begun ctx w p prof g trigger).watches[i] =
      if w = i then true else isFired s.watches[i] := by
    rw [show (s.begun ctx w p prof g trigger).watches =
      setAt s.watches w (s.watches[w].map fun x => { x with state := .fired }) from rfl, getElem_setAt]
    split
    · obtain ⟨x, hx, -⟩ := isArmed_iff.1 harmed
      rw [hx]
      rfl
    · rfl
  have hfree : s.refOf ctx = none := by rw [State.refOf, hidle]; rfl
  have hunref (k : Fin 4) : s.refOf k ≠ some w := fun hk =>
    Bool.false_ne_true ((not_fired_of_armed harmed).symm.trans ((fired w).2 ⟨k, hk⟩))
  refine ⟨fun i => ?_, fun k l i hk hl => ?_⟩
  · simp only [href, hfired]
    split
    case isTrue hw =>
      subst hw
      exact iff_of_true rfl ⟨ctx, if_pos rfl⟩
    case isFalse hw =>
      rw [fired]
      refine exists_congr fun k => ?_
      split
      · subst ‹ctx = k›
        simp [hfree, hw]
      · rfl
  · rw [href] at hk hl
    split at hk <;> split at hl
    · exact ‹ctx = k›.symm.trans ‹ctx = l›
    · cases hk
      exact absurd hl (hunref l)
    · cases hl
      exact absurd hk (hunref k)
    · exact apart k l i hk hl

/-- R37 along every move. -/
theorem Move.reference (h : Move known may s t) (hknown : known) (hs : s.ReferenceInv) : t.ReferenceInv := by
  cases h with
  | quiet h =>
    rw [show t = _ from h]
    exact hs.of_tables rfl rfl
  | watches v h _ => exact hs.congr (fun i => (h hknown i).1) fun _ => rfl
  | orphaned i _ => exact hs.orphaned i
  | discarded r _ _ _ => exact hs.dropAll.of_tables rfl rfl
  | ended k reason => exact hs.endCapture k reason
  | opened trigger hidle _ hgrant harmed _ =>
    have hframe := State.allocate_frame hgrant
    have hw := congrArg State.watches hframe
    have hc := congrArg State.contexts hframe
    exact (hs.of_tables hw hc).begun trigger (hc ▸ hidle) (hw ▸ harmed hknown)
  | row values pre gap hc _ =>
    exact hs.setContext (SameButRows.writeRow ..).watches hc (State.writeRow_contexts values pre gap) rfl
  | retimed trigger due hc => exact hs.setContext rfl hc rfl rfl
  | returned => exact hs.of_tables s.readingReturn_watches s.readingReturn_contexts
  | _ => exact hs.of_tables rfl rfl

theorem Moves.reference (h : Moves known may s t) (hknown : known) (hs : s.ReferenceInv) : t.ReferenceInv :=
  h.keep (fun hmove => hmove.reference hknown) hs

/-- A watch that is neither FIRED nor one that the moves may change stays as it is. -/
theorem Move.watch_spared {i : Fin 32} (h : Move known may s t) (hs : s.ReferenceInv) (hi : ¬may i)
    (hfired : isFired s.watches[i] = false) : t.watches[i] = s.watches[i] := by
  have hreleased (k : Fin 4) (c : Context) (hc : s.contexts[k] = some c) :
      (watchesReleased s.watches c.watchRef)[i] = s.watches[i] := by
    cases hr : c.watchRef with
    | none => rfl
    | some j =>
      refine getElem_setAt_ne _ ?_ _
      rintro rfl
      have hcontra := ((State.referenceInv_iff s).1 hs).1 j
      rw [hfired] at hcontra
      exact Bool.false_ne_true (hcontra.2 ⟨k, State.refOf_eq_some.2 ⟨c, hc, hr⟩⟩)
  have hne (j : Fin 32) (hj : may j) : j ≠ i := by
    rintro rfl
    exact hi hj
  have htable {v : Vector (Option Watch) 32} (hv : v = s.watches) : v[i] = s.watches[i] := by rw [hv]
  cases h with
  | quiet h => exact htable h.watches
  | watches v _ hmay => exact hmay i hi
  | orphaned j hmay => exact getElem_setAt_ne _ (hne j hmay) _
  | discarded r _ _ hmay => exact absurd (hmay i) hi
  | ended k reason =>
    cases hc : s.contexts[k] with
    | none => rw [State.endCapture_idle hc]
    | some c =>
      rw [State.endCapture_active hc]
      exact hreleased k c hc
  | opened trigger hidle hprof hgrant harmed hmay =>
    have hw := congrArg State.watches (State.allocate_frame hgrant)
    exact (getElem_setAt_ne _ (hne _ hmay) _).trans (htable hw)
  | row values pre gap _ _ => exact htable (SameButRows.writeRow ..).watches
  | returned => exact htable s.readingReturn_watches
  | _ => exact htable rfl

theorem Moves.watch_spared {i : Fin 32} (h : Moves known may s t) (hknown : known) (hs : s.ReferenceInv) (hi : ¬may i)
    (hfired : isFired s.watches[i] = false) : t.watches[i] = s.watches[i] := by
  induction h with
  | refl => rfl
  | tail hmoves hlast ih => exact (hlast.watch_spared (Moves.reference hmoves hknown hs) hi (ih ▸ hfired)).trans ih

end Sys2Proof.Machine
end

section
/-! Fires, occasions and sweeps as moves (chapters 2, 4 and 8), with the hand-on of an arrival record, in which no watch that
is not FIRED changes before its turn (R25, R38, R55). -/

namespace Sys2Proof.Machine

variable {known : Prop} {may : Fin 32 → Prop} {s t : State} {i : Fin 32}

/-! ### Fires -/

@[simp] theorem State.requestMark_watches (s : State) (o : Option (Fin 16)) : (s.requestMark o).watches = s.watches :=
  (Quiet.requestMark s o).watches

@[simp] theorem State.requestMark_contexts (s : State) (o : Option (Fin 16)) :
    (s.requestMark o).contexts = s.contexts :=
  (Quiet.requestMark s o).contexts

theorem State.takeFire_watches (s : State) (i : Fin 32) (c : Contents) (reference : Option Sweep) :
    (s.takeFire i c reference).watches = setAt s.watches i (s.watches[i].map (·.firedOnce reference)) := by
  simp only [State.takeFire, State.requestPulse_watches, State.requestMark_watches, State.modifyWatch_watches,
    State.bump_watches]

theorem State.takeFire_contexts (s : State) (i : Fin 32) (c : Contents) (reference : Option Sweep) :
    (s.takeFire i c reference).contexts = s.contexts := by
  simp only [State.takeFire, State.requestPulse_contexts, State.requestMark_contexts, State.modifyWatch_contexts,
    State.bump_contexts]

theorem isArmed_map_firedOnce (o : Option Watch) (reference : Option Sweep) :
    isArmed (o.map (·.firedOnce reference)) = isArmed o := by
  cases o <;> rfl

theorem State.takeFire_armed (s : State) (i : Fin 32) (c : Contents) (reference : Option Sweep) :
    isArmed (s.takeFire i c reference).watches[i] = isArmed s.watches[i] := by
  rw [State.takeFire_watches, getElem_setAt_self, isArmed_map_firedOnce]

/-- R69, less the notice and the capture. -/
theorem State.takeFire_moves (hmay : may i) (c : Contents) (reference : Option Sweep) :
    Moves known may s (s.takeFire i c reference) := by
  have hcount : Quiet s (s.bump .fires 1) := .bump s _ _
  have hfired : Move known may (s.bump .fires 1) ((s.bump .fires 1).modifyWatch i (·.firedOnce reference)) :=
    .runtime hmay (fun _ => rfl) fun _ => rfl
  exact (hcount.moves.tail hfired).trans ((Quiet.requestMark _ _).trans (.requestPulse _ _)).moves

/-- A refused fire (R68). -/
theorem State.refuseFire_moves (hmay : may i) : Moves known may s (s.refuseFire i) := by
  have hcount : Quiet s (s.bump .firesRefused 1) := .bump s _ _
  have hrefused : Move known may (s.bump .firesRefused 1) ((s.bump .firesRefused 1).modifyWatch i Watch.refusedOnce) :=
    .runtime hmay (fun _ => rfl) fun _ => rfl
  exact (hcount.moves.tail hrefused).trans (Quiet.post _ _ _ _).moves

theorem State.fireCapture_moves {ctx : Fin 4} (hmay : may i) (c : Contents) (p : Fin 8) (reference : Option Sweep)
    (o : Option Arrival) (hidle : s.contexts[ctx] = none) (harmed : known → isArmed s.watches[i] = true) :
    Moves known may s (s.fireCapture i c p ctx reference o).2 := by
  have hfirst := Quiet.notifyFirst s c
  rw [State.fireCapture]
  split
  · have hquiet := hfirst.trans (.notifyFire _ i c)
    exact hquiet.moves.trans (State.openCapture_moves reference o (hquiet.contexts ▸ hidle)
      (fun hk => hquiet.watches ▸ harmed hk) hmay)
  · exact (hfirst.moves.trans (State.openCapture_moves reference o (hfirst.contexts ▸ hidle)
      (fun hk => hfirst.watches ▸ harmed hk) hmay)).trans (Quiet.notifyFire _ i c).moves

theorem State.idleContext_spec {ctx : Fin 4} (h : s.idleContext = some ctx) : s.contexts[ctx] = none :=
  Option.isNone_iff_eq_none.1 (by simpa using List.find?_some h)

/-- The fire of an ARMED watch (R67 to R71). -/
theorem State.fire_moves (hmay : may i) (reference : Option Sweep) (o : Option Arrival)
    (harmed : known → isArmed s.watches[i] = true) : Moves known may s (s.fire i reference o).2 := by
  rw [State.fire]
  split
  case h_1 => exact .refl
  case h_2 w _ =>
    have hfired : Moves known may s (s.takeFire i w.contents reference) := State.takeFire_moves hmay _ _
    have harmed' (hk : known) : isArmed (s.takeFire i w.contents reference).watches[i] = true := by
      rw [State.takeFire_armed, harmed hk]
    split
    · have hquiet := Quiet.notifyFire (s.takeFire i w.contents reference) i w.contents
      exact (hfired.trans hquiet.moves).tail (.endStep hmay fun hk => hquiet.watches ▸ harmed' hk)
    · split
      · exact State.refuseFire_moves hmay
      · rename_i hctx
        refine hfired.trans (State.fireCapture_moves hmay _ _ _ _ ?_ harmed')
        rw [State.takeFire_contexts]
        exact State.idleContext_spec hctx

theorem State.fireIf_moves (hmay : may i) (c : Contents) (met : Bool) (reference : Option Sweep) (o : Option Arrival)
    (harmed : known → isArmed s.watches[i] = true) : Moves known may s (s.fireIf i c met reference o) :=
  .ite (fun _ => State.fire_moves hmay reference o harmed) fun _ => .refl

/-! ### Occasions that are no arrival records -/

theorem State.settleOccasion_moves (hmay : may i) (meets : Condition → Bool) :
    Moves known may s (s.settleOccasion meets i) := by
  rw [State.settleOccasion]
  split
  case h_1 => exact .refl
  case h_2 w hw =>
    refine Moves.ite (fun harmed => ?_) fun _ => .refl
    exact State.fireIf_moves hmay _ _ _ _ fun _ => isArmed_iff.2 ⟨w, hw, harmed⟩

theorem State.occasion_moves (hmay : ∀ i, may i) (meets : Condition → Bool) : Moves known may s (s.occasion meets) :=
  Moves.foldl _ (fun _ i _ => State.settleOccasion_moves (hmay i) meets) _

/-! ### The hand-on of an arrival record -/

theorem Watch.countHoldoff_contents (w : Watch) (d : Nat) : (w.countHoldoff d).contents = w.contents := by
  simp only [Watch.countHoldoff]
  split
  · exact Watch.rearmed_contents _
  · rfl

theorem Watch.countHoldoff_state (w : Watch) (d : Nat) :
    (w.countHoldoff d).state = w.state ∨ (w.countHoldoff d).state = .spent ∨ (w.countHoldoff d).state = .armed := by
  simp only [Watch.countHoldoff]
  split
  · exact .inr (Watch.rearmed_state _)
  · exact .inl rfl

/-- A watch settled on an arrival record, while it is as it was when the record was handed on (R38, R55, R72). -/
theorem State.settle_moves {before : Vector (Option Watch) 32} (hmay : may i) (a : Arrival)
    (hsame : known → isFired before[i] = false → s.watches[i] = before[i]) :
    Moves known may s (s.settle before a i) := by
  rw [State.settle]
  split
  case h_1 => exact .refl
  case h_2 w hw =>
    have hnow (hk : known) (hs : w.state ≠ .fired) : s.watches[i] = some w := by
      rw [hsame hk (by simpa [hw, isFired] using hs), hw]
    split
    case h_1 harmed =>
      have hrun : Move known may s (s.modifyWatch i fun x => { x with runtime := (w.contents.onArrival w.runtime a).2 }) :=
        .runtime hmay (fun _ => rfl) fun _ => rfl
      refine hrun.moves.trans (State.fireIf_moves hmay _ _ _ _ fun hk => ?_)
      rw [State.modifyWatch_watches, getElem_setAt_self, hnow hk (by simp [harmed])]
      simp [isArmed, harmed]
    case h_2 hholdoff =>
      refine Move.moves (.unfiredWatch hmay (fun x => by rw [Watch.countHoldoff_contents]) fun hk x hx => ?_)
      cases (hnow hk (by simp [hholdoff])).symm.trans hx
      obtain h | h | h := w.countHoldoff_state a.gap <;> simp [h, hholdoff, WatchState.holds]
    all_goals exact .refl

/-- The watches settled in turn, with captures taking the record in between: a watch not yet settled that was not FIRED is
as it was when the record was handed on. -/
theorem State.settleAll_moves {before : Vector (Option Watch) 32} {take : State → Fin 32 → State} (a : Arrival)
    (htake : ∀ t i, Moves known (fun _ => False) t (take t i)) (l : List (Fin 32)) (hl : l.Nodup)
    (href : known → s.ReferenceInv)
    (hsame : known → ∀ j ∈ l, isFired before[j] = false → s.watches[j] = before[j]) :
    Moves known (fun _ => True) s (l.foldl (fun t i => (take t i).settle before a i) s) := by
  induction l generalizing s with
  | nil => exact .refl
  | cons i l ih =>
    obtain ⟨hnotin, hl⟩ := List.nodup_cons.1 hl
    have htaken := htake s i
    have hsame' (hk : known) (j : Fin 32) (hj : j ∈ i :: l) (hb : isFired before[j] = false) :
        (take s i).watches[j] = before[j] := by
      have hj := hsame hk j hj hb
      rw [Moves.watch_spared htaken hk (href hk) not_false (hj ▸ hb), hj]
    have hsettled : Moves known (· = i) (take s i) ((take s i).settle before a i) :=
      State.settle_moves (may := (· = i)) rfl a fun hk => hsame' hk i List.mem_cons_self
    have hhead := (htaken.mono (may' := fun _ => True) fun _ _ => trivial).trans
      (hsettled.mono fun _ _ => trivial)
    refine hhead.trans (ih hl (fun hk => Moves.reference hhead hk (href hk)) fun hk j hj hb => ?_)
    have hbefore := hsame' hk j (List.mem_cons_of_mem _ hj) hb
    have hne : ¬j = i := by
      rintro rfl
      exact hnotin hj
    rw [Moves.watch_spared hsettled hk (Moves.reference htaken hk (href hk)) hne (hbefore ▸ hb), hbefore]

/-- R25, R54, R55 and R90. -/
theorem State.handOn_moves (a : Arrival) (href : known → s.ReferenceInv) :
    Moves known (fun _ => True) s (s.handOn a) := by
  rw [State.handOn]
  split
  case h_1 =>
    exact State.settleAll_moves (take := fun t _ => t) a (fun _ _ => .refl) _ (List.nodup_finRange 32) href
      fun _ _ _ _ => rfl
  case h_2 =>
    have hdraw := Quiet.draw s
    refine (hdraw.moves.trans ?_).trans (State.takeAll_moves _ a _)
    refine State.settleAll_moves (take := fun t i => t.takeAll a (contextsAt s.draw.1 _ i.val)) a
      (fun t i => State.takeAll_moves t a _) _ (List.nodup_finRange 32) (fun hk => ?_) fun _ _ _ _ => by rw [hdraw.watches]
    exact (href hk).of_tables hdraw.watches hdraw.contexts

/-! ### Sweeps -/

theorem mem_appendRows {old new : List Row} {row : Row} (h : row ∈ appendRows old new) : row ∈ old ++ new := by
  rw [appendRows] at h
  exact List.mem_of_mem_drop h

/-- The rows of an accepted sweep keep what the history keeps (R27, R28). -/
theorem State.ReceiverInv.take (h : s.ReceiverInv) (a : Arrival) :
    State.ReceiverInv { s with receiver := s.receiver.take a } where
  rows := by
    simp only [Receiver.take, appendRows, List.length_drop]
    omega
  started := fun hnone => by cases hnone
  set := h.set
  distinct := h.distinct
  widths := fun row hrow => by
    simp only [Receiver.take] at hrow
    have hrow := mem_appendRows hrow
    simp only [List.mem_append, List.mem_replicate, List.mem_singleton] at hrow
    obtain hold | ⟨-, rfl⟩ | rfl := hrow
    · exact h.widths row hold
    · simp [Receiver.missingRow, Receiver.take]
    · simp [Receiver.receivedRow, Receiver.take]

theorem State.ReceiverInv.emptied (h : s.ReceiverInv) (expected : Option Sweep) :
    State.ReceiverInv { s with receiver := { s.receiver with expected := expected, history := [] } } where
  rows := Nat.zero_le _
  started := fun _ => rfl
  set := h.set
  distinct := h.distinct
  widths := fun _ hrow => by cases hrow

theorem State.takeSweep_moves (a : Arrival) (href : known → s.ReferenceInv) :
    Moves known (fun _ => True) s (s.takeSweep a) := by
  have htake : Move known (fun _ => True) s { s with receiver := s.receiver.take a } :=
    .receiver _ (fun h => h.take a) fun h => h
  exact htake.moves.trans (State.handOn_moves a fun hk => (href hk).of_tables rfl rfl)

/-- R74: the runtime of every watch, not its state. -/
theorem Move.breakWatches (hmay : ∀ i, may i) : Move known may s s.breakWatches := by
  refine .watches _ (fun _ i => ?_) fun i hi => absurd (hmay i) hi
  rw [getElem_mapTable]
  cases s.watches[i] with
  | none => exact ⟨rfl, fun _ h => by cases h⟩
  | some w => exact ⟨rfl, fun w' h hs => .inr ⟨w, rfl, by cases h; exact hs, by cases h; rfl⟩⟩

theorem Move.breakReceiver : Move known may s s.breakReceiver :=
  .receiver _ (fun h => h.emptied none) fun h => h

/-- R24. -/
theorem State.resync_moves (hmay : ∀ i, may i) : Moves known may s s.resync := by
  have hcount : Quiet s (s.bump .resyncs 1) := .bump s _ _
  have hempty : Move known may (s.bump .resyncs 1)
      { s.bump .resyncs 1 with receiver := { (s.bump .resyncs 1).receiver with history := [] } } :=
    .receiver _ (fun h => h.emptied s.receiver.expected) fun h => h
  exact ((hcount.moves.tail hempty).tail (.breakWatches hmay)).trans (State.endAll_moves _ _)

/-- R20 to R25. -/
theorem State.acceptSweep_moves (n : Sweep) (mark : Word) (slots : List Sample) (href : known → s.ReferenceInv) :
    Moves known (fun _ => True) s (s.acceptSweep n mark slots) := by
  rw [State.acceptSweep]
  split
  case h_1 => exact State.takeSweep_moves _ href
  case h_2 d _ =>
    have hcount : Quiet s (s.bump .missedSweeps d) := .bump s _ _
    exact hcount.moves.trans (State.takeSweep_moves _ fun hk => (href hk).of_tables rfl rfl)
  case h_3 =>
    have hresync : Moves known (fun _ => True) s s.resync := State.resync_moves fun _ => trivial
    exact hresync.trans (State.takeSweep_moves _ fun hk => Moves.reference hresync hk (href hk))

/-! ### Arming, disarming and events -/

theorem State.armCase_arms (h : s.armCase i = .arms) :
    ∃ w, s.watches[i] = some w ∧ (w.state = .idle ∨ w.state = .spent) ∧ s.missingProfile w = none := by
  rw [State.armCase] at h
  split at h
  · cases h
  · rename_i w hw
    split at h
    · cases h
    · cases h
    · cases h
    all_goals
      split at h
      · cases h
      · exact ⟨w, hw, by simp_all, ‹_›⟩

theorem State.missingProfile_eq_none_iff {w : Watch} :
    s.missingProfile w = none ↔ ∀ p, w.contents.profile = some p → (s.profiles[p]).isSome = true := by
  rw [State.missingProfile]
  cases w.contents.profile with
  | none => simp
  | some p => simp [← Option.ne_none_iff_isSome]

/-- R44. -/
theorem State.armWatch_moves (hmay : may i) : Moves known may s (s.armWatch i) := by
  refine .ite (fun harms => Move.moves (.watch hmay fun _ => ?_)) fun _ => .refl
  obtain ⟨w, hw, hs, hprofile⟩ := State.armCase_arms harms
  rw [hw]
  refine ⟨by obtain h | h := hs <;> simp [isFired, h, Watch.armedFresh], fun w' hw' _ => .inl ?_⟩
  cases hw'
  exact State.missingProfile_eq_none_iff.1 hprofile

/-- R45, R46. -/
theorem State.disarmWatch_moves (hmay : may i) : Moves known may s (s.disarmWatch i) := by
  rw [State.disarmWatch]
  split
  case h_1 => exact .refl
  case h_2 w hw =>
    split
    case h_2 => exact (Move.orphaned i hmay).moves
    case h_1 => exact .refl
    all_goals
      refine Move.moves (.unfiredWatch hmay (fun _ => rfl) fun _ x hx => ?_)
      cases hw.symm.trans hx
      simp_all [Watch.disarmed, WatchState.holds]

theorem State.armGroup_moves (hmay : ∀ i, may i) (mask : BitVec 4) : Moves known may s (s.armGroup mask) :=
  Moves.foldl _ (fun _ i _ => State.armWatch_moves (hmay i)) _

theorem State.disarmGroup_moves (hmay : ∀ i, may i) (mask : BitVec 4) : Moves known may s (s.disarmGroup mask) :=
  Moves.foldl _ (fun _ i _ => State.disarmWatch_moves (hmay i)) _

/-- R147. -/
theorem State.applyEntry_moves (hmay : ∀ i, may i) (e : EventEntry) : Moves known may s (s.applyEntry e) := by
  refine .ite (fun _ => ?_) fun _ => .refl
  refine ((State.disarmGroup_moves hmay e.disarm).trans (State.armGroup_moves hmay e.arm)).trans ?_
  split
  · exact ((Quiet.setTimeBase _ 0).trans (.requestPulse _ _)).moves
  · exact (Quiet.requestPulse _ _).moves

theorem State.applyEvent_moves (hmay : ∀ i, may i) (code : Fin 16) : Moves known may s (s.applyEvent code) :=
  (State.applyEntry_moves hmay _).trans (State.occasion_moves hmay _)

theorem State.eventArrives_moves (hmay : ∀ i, may i) (code : Fin 16) (immediate : Bool) :
    Moves known may s (s.eventArrives code immediate) := by
  refine .ite (fun _ => State.applyEvent_moves hmay code) fun _ => .ite (fun _ => ?_) fun _ => ?_
  · exact Quiet.moves rfl
  · exact ((Quiet.bump s _ _).trans (.post _ _ _ _)).moves

theorem State.eventExpires_moves (hmay : ∀ i, may i) (place : Nat) : Moves known may s (s.eventExpires place) := by
  rw [State.eventExpires]
  split
  case h_1 => exact .refl
  case h_2 w _ =>
    have hleaves : Quiet s { s with events := { s.events with waiting := s.events.waiting.eraseIdx place } } := rfl
    exact hleaves.moves.trans (State.applyEvent_moves hmay w.code)

theorem State.candidateRunsOut_moves (hmay : ∀ i, may i) (line : Line) : Moves known may s (s.candidateRunsOut line) := by
  refine .ite (fun _ => ?_) fun _ => .refl
  have hsettled : Quiet s { s with lines := s.lines.setDetector line (s.lines.detector line).settle } := rfl
  split
  · exact hsettled.moves
  · exact hsettled.moves.trans (State.occasion_moves hmay _)

end Sys2Proof.Machine
end

section
/-! The ends of all captures in flight leave no context ACTIVE, in whatever order they are taken (log 6); the loop reset and
the scopes of CLEAR as moves. -/

namespace Sys2Proof.Machine

variable {known : Prop} {may : Fin 32 → Prop} {s t : State}

/-! ### Every capture ends -/

/-- An order of a list holds its elements. -/
theorem arrange_perm {α : Type} (fuel : Nat) (l : List α) (x : Nat) (hl : l.length ≤ fuel) :
    (arrange fuel l x).Perm l := by
  induction fuel generalizing l x with
  | zero => exact .refl _
  | succ fuel ih =>
    rw [arrange]
    split
    case h_1 hnone =>
      have hlen := List.getElem?_eq_none_iff.1 hnone
      cases l with
      | nil => exact .refl _
      | cons a l => exact absurd (Nat.mod_lt x (Nat.succ_pos l.length)) (Nat.not_lt.2 hlen)
    case h_2 a ha =>
      obtain ⟨hlt, rfl⟩ := List.getElem?_eq_some_iff.1 ha
      refine ((ih _ _ ?_).cons _).trans (List.getElem_cons_eraseIdx_perm hlt)
      rw [List.length_eraseIdx_of_lt hlt]
      omega

theorem State.mem_activeContexts {k : Fin 4} : k ∈ s.activeContexts ↔ s.contexts[k] ≠ none := by
  rw [State.activeContexts, mem_indicesWhere, Option.ne_none_iff_isSome]

theorem State.mem_endOrder {k : Fin 4} : k ∈ s.endOrder.1 ↔ s.contexts[k] ≠ none := by
  rw [← State.mem_activeContexts, State.endOrder]
  split
  · rfl
  · exact (arrange_perm 4 _ _ ((List.length_filter_le _ _).trans (by simp))).mem_iff

@[simp] theorem State.endCapture_contexts (s : State) (k : Fin 4) (reason : EndReason) :
    (s.endCapture k reason).contexts = setAt s.contexts k none := by
  cases hc : s.contexts[k] with
  | none => rw [State.endCapture_idle hc, ← hc, setAt_getElem_self]
  | some c => rw [State.endCapture_active hc]

theorem State.dropCapture_contexts (s : State) (k : Fin 4) : (s.dropCapture k).contexts = setAt s.contexts k none := by
  cases hc : s.contexts[k] with
  | none => rw [State.dropCapture_idle hc, ← hc, setAt_getElem_self]
  | some c => rw [State.dropCapture_active hc]

/-- Contexts let go one after another. -/
theorem foldl_contexts {f : State → Fin 4 → State} (hf : ∀ t k, (f t k).contexts = setAt t.contexts k none)
    (l : List (Fin 4)) (s : State) (k : Fin 4) :
    (l.foldl f s).contexts[k] = if k ∈ l then none else s.contexts[k] := by
  induction l generalizing s with
  | nil => simp
  | cons j l ih =>
    rw [List.foldl_cons, ih, hf, getElem_setAt]
    by_cases hj : j = k
    · subst hj
      simp
    · simp [hj, Ne.symm hj]

theorem State.endAll_idle (s : State) (reason : EndReason) (k : Fin 4) : (s.endAll reason).contexts[k] = none := by
  rw [State.endAll, foldl_contexts (fun t k => t.endCapture_contexts k reason), (Quiet.endOrder s).contexts]
  split
  · rfl
  · simpa [State.mem_endOrder] using ‹¬k ∈ s.endOrder.1›

theorem State.dropAll_idle (s : State) (k : Fin 4) : s.dropAll.contexts[k] = none := by
  rw [State.dropAll, foldl_contexts State.dropCapture_contexts]
  split
  · rfl
  · simpa [State.mem_activeContexts] using ‹¬k ∈ s.activeContexts›

/-- With no context ACTIVE no watch is FIRED (R37). -/
theorem State.ReferenceInv.unfired (h : s.ReferenceInv) (hidle : ∀ k : Fin 4, s.contexts[k] = none) (i : Fin 32) :
    isFired s.watches[i] = false := by
  rw [← Bool.not_eq_true, ((State.referenceInv_iff s).1 h).1 i]
  rintro ⟨k, hk⟩
  obtain ⟨c, hc, -⟩ := State.refOf_eq_some.1 hk
  rw [hidle k] at hc
  cases hc

/-! ### The departure from UP and the loop reset -/

/-- What a departure from UP does to the blocks (R8). -/
theorem State.departUp_moves (hmay : ∀ i, may i) : Moves known may s s.departUp := by
  have hmark : Quiet s { s with port := { s.port with markWord := 0 } } := rfl
  refine hmark.moves.trans (Moves.ite (fun _ => ?_) fun _ => .refl)
  exact (Move.breakReceiver.moves.tail (.breakWatches hmay)).trans (State.endAll_moves _ _)

/-- R51: every watch of a table in which none is FIRED. -/
theorem Move.resetWatches (hmay : ∀ i, may i) (hunfired : known → ∀ i : Fin 32, isFired s.watches[i] = false) :
    Move known may s s.resetWatches := by
  refine .watches _ (fun hk i => ?_) fun i hi => absurd (hmay i) hi
  have hi := hunfired hk i
  rw [getElem_mapTable]
  cases hw : s.watches[i] with
  | none => exact ⟨rfl, fun _ h => by cases h⟩
  | some w =>
    rw [hw] at hi
    exact ⟨hi.symm ▸ rfl, fun w' h hs => by cases h; cases hs⟩

/-- Without origins there is no holder, and nothing is READING (R174, R121). -/
theorem State.session_emptied (hreturned : ∀ (g : Fin 64) (x : Segment), s.ring.segs[g] = some x → x.state ≠ .reading) :
    State.SessionInv { s with session := { origins := [], holder := none, leaseTimer := none } } ∧
      State.ReadingInv { s with session := { origins := [], holder := none, leaseTimer := none } } :=
  ⟨⟨Nat.zero_le _, List.nodup_nil, Iff.rfl, fun _ h => by (cases h), fun _ _ h => by (cases h)⟩, fun _ => hreturned⟩

theorem Segment.returned_state_ne_reading (x : Segment) : x.returned.state ≠ .reading := by
  rw [Segment.returned]
  dsimp only
  split <;> simp_all

theorem State.readingReturn_not_reading (s : State) (g : Fin 64) (x : Segment)
    (hx : s.readingReturn.ring.segs[g] = some x) : x.state ≠ .reading := by
  rw [State.readingReturn_ring, getElem_mapTable] at hx
  obtain ⟨y, -, rfl⟩ := Option.map_eq_some_iff.1 hx
  exact y.returned_state_ne_reading

/-- The end of a loop reset, once no segment is READING: the notice queue, the waiting events and the session. -/
theorem State.resetSession_moves
    (hreturned : ∀ (g : Fin 64) (x : Segment), s.ring.segs[g] = some x → x.state ≠ .reading) :
    Moves known may s { s.resetNotices with
      events := { s.resetNotices.events with waiting := [] }
      session := { origins := [], holder := none, leaseTimer := none } } := by
  have hquiet : Quiet s { s.resetNotices with events := { s.resetNotices.events with waiting := [] } } := rfl
  exact hquiet.moves.tail (.session _ fun _ _ => State.session_emptied hreturned)

/-- R14. -/
theorem State.loopReset_moves (hmay : ∀ i, may i) (href : known → s.ReferenceInv) : Moves known may s s.loopReset := by
  have hmark : Quiet s { s with port := { s.port with markWord := 0 } } := rfl
  have hended : Moves known may s (({ s with port := { s.port with markWord := 0 } }.breakReceiver).endAll .reset) :=
    (hmark.moves.tail .breakReceiver).trans (State.endAll_moves _ _)
  have hidle := State.endAll_idle ({ s with port := { s.port with markWord := 0 } }.breakReceiver) .reset
  rw [State.loopReset]
  dsimp only
  generalize State.endAll _ _ = e at hended hidle ⊢
  have hwatches := hended.tail (.resetWatches hmay fun hk => (Moves.reference hended hk (href hk)).unfired hidle)
  have hreturned := hwatches.tail .returned
  exact hreturned.trans (State.resetSession_moves e.resetWatches.readingReturn_not_reading)

/-! ### CLEAR -/

theorem Move.emptiedWatches (hmay : ∀ i, may i) (hunfired : known → ∀ i : Fin 32, isFired s.watches[i] = false) :
    Move known may s { s with watches := Vector.replicate 32 none } := by
  refine .watches _ (fun hk i => ?_) fun i hi => absurd (hmay i) hi
  rw [getElem_replicate_fin]
  exact ⟨(hunfired hk i).symm, fun _ h => by cases h⟩

/-- R184, the scope TABLES. -/
theorem State.clearTables_moves (hmay : ∀ i, may i) (href : known → s.ReferenceInv) :
    Moves known may s s.clearTables := by
  have hended : Moves known may s (s.endAll .aborted) := State.endAll_moves _ _
  have hwatches := hended.tail (.emptiedWatches hmay fun hk =>
    (Moves.reference hended hk (href hk)).unfired (State.endAll_idle _ _))
  rw [State.clearTables]
  dsimp only
  generalize s.endAll .aborted = u at hwatches ⊢
  have hprofiles : Move known may { u with watches := Vector.replicate 32 none }
      { u with watches := Vector.replicate 32 none, profiles := Vector.replicate 8 none } :=
    .profiles _ (fun _ i p hp => absurd ((getElem_replicate_fin _ i).symm.trans hp) (by simp))
      fun _ i w _ hw => absurd ((getElem_replicate_fin _ i).symm.trans hw) (by simp)
  refine (hwatches.tail hprofiles).trans ?_
  have hevents : Quiet { u with watches := Vector.replicate 32 none, profiles := Vector.replicate 8 none }
      { u with
        watches := Vector.replicate 32 none, profiles := Vector.replicate 8 none
        events := { u.events with table := Vector.replicate 16 EventEntry.powerOn } } := rfl
  refine hevents.moves.tail (.receiver _ (fun _ => ?_) fun _ i p hp => ?_)
  · exact ⟨Nat.zero_le _, fun _ => rfl, Nat.zero_le _, List.nodup_nil, fun _ h => by cases h⟩
  · exact absurd ((getElem_replicate_fin _ i).symm.trans hp) (by simp)

/-- R184, the scope CAPTURES. -/
theorem State.clearCaptures_moves : Moves known may s s.clearCaptures := by
  have hended : Moves known may s (s.endAll .aborted) := State.endAll_moves _ _
  have hfreed : Move known may (s.endAll .aborted) (s.endAll .aborted).freeAll := by
    refine .emptied _ ⟨rfl, rfl, rfl, rfl⟩ (fun h => ⟨h.count, h.size, h.fits, ?_⟩) fun _ => State.endAll_idle _ _
    exact Nat.lt_of_lt_of_le (show 0 < 2 by decide) h.count.1
  exact (hended.tail hfreed).trans (Quiet.ringLowTest _).moves

theorem State.clear_moves (hmay : ∀ i, may i) (href : known → s.ReferenceInv) (x : Scopes) :
    Moves known may s (s.clear x) := by
  have htables : Moves known may s (if x.tables then s.clearTables else s) :=
    Moves.ite (fun _ => State.clearTables_moves hmay href) fun _ => .refl
  rw [State.clear]
  generalize (if x.tables then s.clearTables else s) = a at htables ⊢
  have hcaptures : Moves known may a (if x.captures then a.clearCaptures else a) :=
    Moves.ite (fun _ => State.clearCaptures_moves) fun _ => .refl
  generalize (if x.captures then a.clearCaptures else a) = b at hcaptures ⊢
  exact (htables.trans hcaptures).trans (Moves.ite (fun _ => (Quiet.setQueue _ []).moves) fun _ => .refl)

end Sys2Proof.Machine
end

section
/-! What the parameters of requests read as, and the requests of the watch table, the history store, the capture engine, the
notice unit and the node as moves. -/

namespace Sys2Proof.Machine

/-! ### Reading parameters -/

theorem bind_ok_iff {α β : Type} {x : Except Nat α} {f : α → Except Nat β} {b : β} :
    (x >>= f) = .ok b ↔ ∃ a, x = .ok a ∧ f a = .ok b := by
  cases x <;> simp [bind, Except.bind]

theorem needAt_ok_iff {α : Type} {check : Nat} {o : Option α} {x : α} : needAt check o = .ok x ↔ o = some x := by
  cases o <;> simp [needAt]

theorem needThat_ok_iff {α : Type} {check : Nat} {o : Option α} {p : α → Bool} {x : α} :
    needThat check o p = .ok x ↔ o = some x ∧ p x = true := by
  cases o with
  | none => simp [needThat]
  | some y =>
    rw [needThat]
    split
    · simpa using fun h => h ▸ ‹p y = true›
    · simpa using fun h => h ▸ Bool.eq_false_iff.2 ‹¬p y = true›

theorem needTrue_ok_iff {check : Nat} {b : Bool} {u : Unit} : needTrue check b = .ok u ↔ b = true := by
  cases b <;> simp [needTrue]

theorem length_flatMap_slotPair (ws : List Word) : (ws.flatMap slotPair).length = 2 * ws.length := by
  simp [List.length_flatMap, slotPair, Nat.mul_comm]

theorem length_paramSlots_eq {b : List Word} {n k : Nat} {l : List (BitVec 8)} (h : paramSlots b n k = some l) :
    l.length = k := by
  rw [paramSlots] at h
  split at h
  · cases h
    rw [List.length_take, length_flatMap_slotPair]
    omega
  · cases h

theorem paramFull_le {b : List Word} {n v : Nat} (h : paramFull b n = some v) : v ≤ 65535 := by
  rw [paramFull] at h
  split at h
  · split at h
    · cases h
      omega
    · cases h
  · cases h

theorem readHistorySet_bounds {b : List Word} {l : List (BitVec 8)} (h : readHistorySet b = some l) :
    l.length ≤ 32 ∧ l.Nodup := by
  rw [readHistorySet] at h
  split at h
  · cases h
  · split at h
    · split at h
      · cases h
      · rename_i hslots
        split at h
        · cases h
          exact ⟨(length_paramSlots_eq hslots).trans_le ‹_›, ‹_›⟩
        · cases h
    · cases h

/-- What the checks of R78 ask of a profile. -/
theorem readProfile_bounds {b : List Word} {p : Profile} (h : readProfile b = .ok p) :
    1 ≤ p.slots.length ∧ p.slots.length ≤ 16 ∧ p.slots.Nodup ∧ 1 ≤ p.decimation ∧ p.decimation ≤ 256 ∧ 1 ≤ p.post ∧
      p.post ≤ 65535 ∧ p.pre * p.decimation ≤ 1024 := by
  simp only [readProfile, bind_ok_iff, needAt_ok_iff, needThat_ok_iff, needTrue_ok_iff] at h
  obtain ⟨k, ⟨-, hk⟩, slots, ⟨hslots, hdistinct⟩, pre, -, post, ⟨hpost, hpost'⟩, decimation, ⟨-, hdecimation⟩, _, hproduct,
    policy, -, auto, -, notify, -, hp⟩ := h
  cases hp
  simp only [Bool.and_eq_true, bne_iff_ne, decide_eq_true_eq] at hk hdistinct hpost' hdecimation hproduct
  have hlength := length_paramSlots_eq hslots
  have hrange := paramFull_le hpost
  dsimp only
  refine ⟨by omega, by omega, hdistinct, by omega, by omega, by omega, hrange, hproduct⟩

variable {known : Prop} {may : Fin 32 → Prop} {s t : State}

/-! ### The history store and the profiles -/

theorem Profile.lacks_eq_none_iff {p : Profile} {set : List (BitVec 8)} :
    p.lacks set = none ↔ (0 < p.pre → ∀ x ∈ p.slots, x ∈ set) := by
  rw [Profile.lacks]
  split
  · simp [‹p.pre = 0›]
  · have hpos : 0 < p.pre := Nat.pos_of_ne_zero ‹_›
    simp [hpos]

theorem State.historyConflict_eq_none_iff {set : List (BitVec 8)} :
    s.historyConflict set = none ↔ ∀ (i : Fin 8) (p : Profile), s.profiles[i] = some p → p.lacks set = none := by
  simp only [State.historyConflict, List.findSome?_eq_none_iff, List.mem_finRange, true_implies]
  refine forall_congr' fun i => ?_
  rw [State.profileLacks]
  split <;> simp_all

theorem doSetHistory_moves (c : Call) : Moves known may s (doSetHistory c s).2 := by
  rw [doSetHistory]
  split
  · exact .refl
  · rename_i l hl
    split
    · exact .refl
    · rename_i hnone
      obtain ⟨hlength, hdistinct⟩ := readHistorySet_bounds hl
      refine Move.moves (.receiver _ (fun _ => ?_) fun h i p hp => ?_)
      · exact ⟨Nat.zero_le _, fun _ => rfl, hlength, hdistinct, fun _ h => by cases h⟩
      · obtain ⟨hmin, hmax, hslots, hdmin, hdmax, hpmin, hpmax, hproduct, -⟩ := h i p hp
        have hkept := Profile.lacks_eq_none_iff.1 (State.historyConflict_eq_none_iff.1 hnone i p hp)
        exact ⟨hmin, hmax, hslots, hdmin, hdmax, hpmin, hpmax, hproduct, hkept⟩

theorem State.ProfileInv.setProfile (h : s.ProfileInv) (i : Fin 8) {o : Option Profile}
    (ho : ∀ p, o = some p →
      1 ≤ p.slots.length ∧ p.slots.length ≤ 16 ∧ p.slots.Nodup ∧ 1 ≤ p.decimation ∧ p.decimation ≤ 256 ∧ 1 ≤ p.post ∧
        p.post ≤ 65535 ∧ p.pre * p.decimation ≤ 1024 ∧ (0 < p.pre → ∀ x ∈ p.slots, x ∈ s.receiver.historySet)) :
    (s.setProfile i o).ProfileInv := by
  intro j p hp
  rw [State.setProfile, getElem_setAt] at hp
  split at hp
  · exact ho p hp
  · exact h j p hp

theorem doLoadProfile_moves (c : Call) : Moves known may s (doLoadProfile c s).2 := by
  rw [doLoadProfile]
  split
  · exact .refl
  · rename_i i p hread
    split
    · exact .refl
    · rename_i hlacks
      simp only [readLoadProfile, bind_ok_iff] at hread
      obtain ⟨_, -, _, hprofile, heq⟩ := hread
      cases heq
      obtain ⟨hmin, hmax, hslots, hdmin, hdmax, hpmin, hpmax, hproduct⟩ := readProfile_bounds hprofile
      refine Move.moves (.profiles _ (fun h => ?_) fun h j w q hw hq hs => ?_)
      · refine State.ProfileInv.setProfile h i fun p' hp' => ?_
        cases hp'
        exact ⟨hmin, hmax, hslots, hdmin, hdmax, hpmin, hpmax, hproduct, Profile.lacks_eq_none_iff.1 hlacks⟩
      · rw [getElem_setAt]
        split
        · rfl
        · exact h j w q hw hq hs

theorem withProfile_moves {c : Call} {f : Fin 8 → Reply × State} (hf : ∀ i, Moves known may s (f i).2) :
    Moves known may s (withProfile c s f).2 := by
  rw [withProfile]
  split
  · exact .refl
  · exact hf _

/-- No watch holds a profile (R80). -/
theorem State.profileHolder_eq_none_iff {i : Fin 8} :
    s.profileHolder i = none ↔ ∀ (k : Fin 32) (w : Watch), s.watches[k] = some w → w.contents.profile = some i →
      w.state.holds = false := by
  simp only [State.profileHolder, List.find?_eq_none, List.mem_finRange, true_implies]
  refine forall_congr' fun k => ?_
  split <;> simp_all [Watch.names]

theorem doClearProfile_moves (c : Call) : Moves known may s (doClearProfile c s).2 := by
  refine withProfile_moves fun i => ?_
  split
  · exact .refl
  · split
    · exact .refl
    · rename_i hnone
      refine Move.moves (.profiles _ (fun h => ?_) fun h j w q hw hq hs => ?_)
      · exact State.ProfileInv.setProfile h i fun _ h => by cases h
      · rw [getElem_setAt_ne]
        · exact h j w q hw hq hs
        · rintro rfl
          rw [State.profileHolder_eq_none_iff.1 hnone j w hw hq] at hs
          cases hs

theorem doAbortCapture_moves (c : Call) : Moves known may s (doAbortCapture c s).2 := by
  rw [doAbortCapture]
  split
  · exact .refl
  · split
    · exact .refl
    · exact (Move.ended _ .aborted).moves

/-! ### The watch table -/

theorem withWatch_moves {c : Call} {f : Fin 32 → Reply × State} (hf : ∀ i, Moves known may s (f i).2) :
    Moves known may s (withWatch c s f).2 := by
  rw [withWatch]
  split
  · exact .refl
  · exact hf _

/-- A watch entry that is not FIRED is replaced by one that is EMPTY or IDLE. -/
theorem Move.replaceWatch {i : Fin 32} {o : Option Watch} (hmay : may i) (hbefore : isFired s.watches[i] = false)
    (hafter : ∀ w, o = some w → w.state = .idle) : Move known may s { s with watches := setAt s.watches i o } := by
  refine .watches _ (fun _ j => ?_) fun j hj => getElem_setAt_ne _ (by rintro rfl; exact hj hmay) _
  rw [getElem_setAt]
  split
  · subst ‹i = j›
    refine ⟨?_, fun w hw hs => ?_⟩
    · rw [hbefore, ← Bool.not_eq_true, isFired_iff]
      rintro ⟨w, hw, hs⟩
      rw [hafter w hw] at hs
      cases hs
    · rw [hafter w hw] at hs
      cases hs
  · exact ⟨rfl, fun w' hw' hs => .inr ⟨w', hw', hs, rfl⟩⟩

theorem not_fired_of_loadable {o : Option Watch} (h : loadable o = true) : isFired o = false := by
  cases o with
  | none => rfl
  | some w => simp_all [loadable, isFired]

theorem doLoadWatch_moves (hmay : ∀ i, may i) (c : Call) : Moves known may s (doLoadWatch c s).2 := by
  rw [doLoadWatch]
  split
  · exact .refl
  · split
    · refine Move.moves (.replaceWatch (hmay _) (not_fired_of_loadable ‹_›) fun w hw => ?_)
      cases hw
      rfl
    · exact .refl

theorem doClearWatch_moves (hmay : ∀ i, may i) (c : Call) : Moves known may s (doClearWatch c s).2 := by
  refine withWatch_moves fun i => ?_
  split
  · exact .refl
  · exact Move.moves (.replaceWatch (hmay i) (Bool.eq_false_iff.2 ‹_›) fun _ h => by cases h)

theorem doArm_moves (hmay : ∀ i, may i) (c : Call) : Moves known may s (doArm c s).2 := by
  refine withWatch_moves fun i => ?_
  split
  case h_5 => exact State.armWatch_moves (hmay i)
  all_goals exact .refl

theorem doDisarm_moves (hmay : ∀ i, may i) (c : Call) : Moves known may s (doDisarm c s).2 := by
  refine withWatch_moves fun i => ?_
  split
  · exact .refl
  · exact State.disarmWatch_moves (hmay i)

theorem doArmGroup_moves (hmay : ∀ i, may i) (c : Call) : Moves known may s (doArmGroup c s).2 := by
  rw [doArmGroup]
  split
  · exact .refl
  · exact State.armGroup_moves hmay _

theorem doDisarmGroup_moves (hmay : ∀ i, may i) (c : Call) : Moves known may s (doDisarmGroup c s).2 := by
  rw [doDisarmGroup]
  split
  · exact .refl
  · exact State.disarmGroup_moves hmay _

theorem doForce_moves (hmay : ∀ i, may i) (c : Call) : Moves known may s (doForce c s).2 := by
  refine withWatch_moves fun i => ?_
  split
  · exact State.fire_moves (hmay i) _ _ fun _ => ‹_›
  · exact .refl

/-! ### The notice unit, the event unit and the node -/

theorem doAckNotices_moves (c : Call) : Moves known may s (doAckNotices c s).2 := by
  rw [doAckNotices]
  split
  · exact .refl
  · exact (Quiet.setQueue s _).moves

theorem doSetEventEntry_moves (c : Call) : Moves known may s (doSetEventEntry c s).2 := by
  rw [doSetEventEntry]
  split
  · exact .refl
  · exact Quiet.moves rfl

theorem doSetTime_moves (c : Call) : Moves known may s (doSetTime c s).2 := by
  rw [doSetTime]
  split
  · exact .refl
  · exact (Quiet.setTimeBase s _).moves

theorem Params.get_set (p : Params) (x y : Param) (v : Nat) :
    (p.set x v).get y = if y = x then v else p.get y := by
  cases x <;> cases y <;> rfl

theorem State.ParamInv.set (h : s.ParamInv) {x : Param} {v : Nat} (hv : x.range.1 ≤ v ∧ v ≤ x.range.2) :
    State.ParamInv { s with params := s.params.set x v } := by
  intro y
  rw [Params.get_set]
  split
  · exact ‹y = x› ▸ hv
  · exact h y

theorem doSetParam_moves (c : Call) : Moves known may s (doSetParam c s).2 := by
  rw [doSetParam]
  split
  · exact .refl
  · rename_i x v hread
    simp only [readSetParam, bind_ok_iff, needThat_ok_iff, decide_eq_true_eq] at hread
    obtain ⟨_, -, _, ⟨-, hv⟩, heq⟩ := hread
    cases heq
    have hset : Moves known may s { s with params := s.params.set x v } := Move.moves (.params _ fun h => h.set hv)
    refine hset.trans ?_
    cases x with
    | noticeSink => exact Moves.ite (fun _ => .refl) fun _ => (Quiet.setQueue _ _).moves
    | ringLow => exact (Quiet.ringLowTest _).moves
    | noticeResend | noticeLimit | leaseTime | eventDelay | takeoverOrigin => exact .refl

theorem doReadCounters_moves (c : Call) : Moves known may s (doReadCounters c s).2 := by
  rw [doReadCounters]
  split
  · exact .refl
  · exact Moves.ite (fun _ => Quiet.moves rfl) fun _ => .refl

theorem doClear_moves (hmay : ∀ i, may i) (href : known → s.ReferenceInv) (c : Call) :
    Moves known may s (doClear c s).2 := by
  rw [doClear]
  split
  · exact .refl
  · exact State.clear_moves hmay href _

end Sys2Proof.Machine
end

section
/-! The requests of the segment ring, the lease, the origin table and the whole of a served request as moves. -/

namespace Sys2Proof.Machine

variable {known : Prop} {may : Fin 32 → Prop} {s t : State}

/-! ### The segment ring -/

theorem readFormat_bounds {b : List Word} {n size : Nat} {force : Bool} (h : readFormat b = .ok (n, size, force)) :
    (2 ≤ n ∧ n ≤ 64) ∧ (64 ≤ size ∧ size ≤ 131072) ∧ n * size ≤ Config.memoryWords := by
  simp only [readFormat, bind_ok_iff, needAt_ok_iff, needThat_ok_iff, needTrue_ok_iff, Bool.and_eq_true,
    decide_eq_true_eq] at h
  obtain ⟨_, ⟨-, hn⟩, _, ⟨-, hsize⟩, _, hfits, _, -, heq⟩ := h
  cases heq
  exact ⟨hn, hsize, hfits⟩

/-- A new format of an emptied ring keeps its ranges. -/
theorem State.FormatInv.formatted {n size : Nat} (hn : 2 ≤ n ∧ n ≤ 64) (hsize : 64 ≤ size ∧ size ≤ 131072)
    (hfits : n * size ≤ Config.memoryWords) {r : Ring} (hcount : r.segCount = n) (hsegSize : r.segSize = size)
    (hcursor : r.cursor = 0) : State.FormatInv { s with ring := r } := by
  subst hcount hsegSize
  exact ⟨hn, hsize, hfits, by dsimp only; omega⟩

/-- Where every segment is FREE no context is ACTIVE (R108). -/
theorem State.RingInv.idle_of_unused (h : s.RingInv) (hused : s.ring.usedCount = 0) (k : Fin 4) : s.contexts[k] = none := by
  by_contra hne
  obtain ⟨c, hc⟩ := Option.ne_none_iff_exists'.1 hne
  obtain ⟨x, hx, -⟩ := h.owned k c hc
  have hinside : c.segment.val < s.ring.segCount := by
    by_contra hout
    have hfree := h.outside c.segment (Nat.not_lt.1 hout)
    rw [hx] at hfree
    cases hfree
  rw [Ring.usedCount, List.countP_eq_zero] at hused
  refine hused c.segment ?_ (by rw [hx]; rfl)
  simp [Ring.indices, hinside]

theorem State.dropCapture_ring (s : State) (k : Fin 4) : (s.dropCapture k).ring = s.ring := by
  cases hc : s.contexts[k] with
  | none => rw [State.dropCapture_idle hc]
  | some c => rw [State.dropCapture_active hc]

theorem State.dropAll_ring (s : State) : s.dropAll.ring = s.ring :=
  List.foldlRecOn (motive := fun t : State => t.ring = s.ring) _ _ rfl fun t ht k _ => (t.dropCapture_ring k).trans ht

theorem doFormatRing_moves (hmay : ∀ i, may i) (c : Call) : Moves known may s (doFormatRing c s).2 := by
  rw [doFormatRing]
  split
  · exact .refl
  · rename_i n size force hread
    obtain ⟨hn, hsize, hfits⟩ := readFormat_bounds hread
    split
    · have hdropped : Move known may s { s.dropAll with
          ring := { s.dropAll.freeAll.ring with segCount := n, segSize := size } } :=
        .discarded _ ⟨rfl, rfl, rfl, show s.dropAll.ring.mem = s.ring.mem by rw [State.dropAll_ring]⟩
          (fun _ => .formatted hn hsize hfits rfl rfl rfl) hmay
      exact hdropped.moves.trans (Quiet.ringLowTest _).moves
    · split
      · have hemptied : Move known may s { s with ring := { s.freeAll.ring with segCount := n, segSize := size } } :=
          .emptied _ ⟨rfl, rfl, rfl, rfl⟩ (fun _ => .formatted hn hsize hfits rfl rfl rfl) fun h =>
            h.idle_of_unused ‹_›
        exact hemptied.moves.trans (Quiet.ringLowTest _).moves
      · exact .refl

theorem servedCount_le {count room fill offset : Nat} : servedCount count room fill offset ≤ fill - offset :=
  (Nat.min_le_right _ _).trans (Nat.min_le_right _ _)

theorem State.serveRead_moves {g : Fin 64} {x : Segment} {offset : Nat} (hx : s.ring.segs[g] = some x)
    (hoffset : offset < x.fill) (hholder : s.session.holder ≠ none) (count room : Nat) :
    Moves known may s (s.serveRead g x offset count room).2 := by
  have hcount := @servedCount_le count room x.fill offset
  have hserved : Move known may s (s.modifySegment g fun _ => x.served (offset + servedCount count room x.fill offset)) :=
    .served g x _ hx (by omega) hholder
  refine hserved.moves.trans (Moves.ite (fun hreleased => ?_) fun _ => .refl)
  simp only [Bool.and_eq_true, beq_iff_eq] at hreleased
  obtain ⟨⟨hstate, -⟩, -⟩ := hreleased
  refine (Move.freed g (x.served (offset + servedCount count room x.fill offset)) ?_ ?_).moves.trans
    (Quiet.ringLowTest _).moves
  · rw [State.modifySegment, getElem_setAt_self, hx]
    rfl
  · rw [hstate]
    rfl

theorem doReadSegment_moves (hholder : s.session.holder ≠ none) (c : Call) : Moves known may s (doReadSegment c s).2 := by
  rw [doReadSegment]
  split
  · exact .refl
  · split
    · exact .refl
    · split
      · exact .refl
      · exact State.serveRead_moves ‹_› (Nat.not_le.1 ‹_›) hholder _ _

theorem doReleaseSegment_moves (c : Call) : Moves known may s (doReleaseSegment c s).2 := by
  rw [doReleaseSegment, withSegment]
  split
  · exact .refl
  · split
    · exact .refl
    · rename_i x hx
      split
      · exact .refl
      · exact (Move.freed _ x hx (Bool.eq_false_iff.2 ‹_›)).moves.trans (Quiet.ringLowTest _).moves

/-! ### The lease -/

theorem Move.leaseGiven {o : Addr} (horigin : o ∈ s.session.origins.map Origin.addr) (ticks : Nat) :
    Move known may s { s with session := { s.session with holder := some o, leaseTimer := some ticks } } := by
  refine .session _ fun h _ => ⟨⟨h.entries, h.distinct, by simp, fun x hx => ?_, h.cached⟩, fun hnone => by cases hnone⟩
  cases hx
  exact horigin

theorem State.giveLease_moves {o : Addr} (horigin : o ∈ s.session.origins.map Origin.addr) :
    Moves known may s (s.giveLease o) :=
  (Move.leaseGiven horigin _).moves.tail .returned

theorem State.loadLease_moves (hholder : s.session.holder ≠ none) : Moves known may s s.loadLease := by
  refine Move.moves (.session _ fun h hreading => ⟨⟨h.entries, h.distinct, ?_, h.present, h.cached⟩, hreading⟩)
  simp [Option.isSome_iff_ne_none, hholder]

theorem State.clearLease_eq (s : State) :
    s.clearLease = { s.readingReturn with
      session := { s.readingReturn.session with holder := none, leaseTimer := none } } := rfl

theorem State.clearLease_moves : Moves known may s s.clearLease := by
  rw [State.clearLease_eq]
  refine Move.returned.moves.tail (.session _ fun h _ => ⟨?_, fun _ => s.readingReturn_not_reading⟩)
  exact ⟨h.entries, h.distinct, by simp, fun _ hx => (by cases hx), h.cached⟩

theorem doClaim_moves {c : Call} (horigin : c.origin ∈ s.session.origins.map Origin.addr) :
    Moves known may s (doClaim c s).2 := by
  rw [doClaim]
  split
  · exact State.giveLease_moves horigin
  · rename_i hholder
    split
    · exact State.loadLease_moves (by simp [hholder])
    · exact .refl

theorem doTakeover_moves {c : Call} (horigin : c.origin ∈ s.session.origins.map Origin.addr) :
    Moves known may s (doTakeover c s).2 := by
  rw [doTakeover]
  split
  · exact State.giveLease_moves horigin
  · rename_i hholder
    split
    · exact State.loadLease_moves (by simp [hholder])
    · exact (State.giveLease_moves horigin).trans (Quiet.post _ _ _ _).moves

theorem State.leaseExpires_moves : Moves known may s s.leaseExpires := by
  rw [State.leaseExpires]
  split
  · exact .refl
  · exact State.clearLease_moves.trans (Quiet.post _ _ _ _).moves

/-! ### Execution -/

/-- The holder has asked, where a control request passes check 3 (R164). -/
theorem State.holder_of_classOk {k : RequestKind} {c : Call} (h : s.classOk k c = true)
    (hcontrol : k.isControl c.body = true) (ha : k ≠ .ackNotices) (ht : k ≠ .takeover) :
    s.session.holder = some c.origin := by
  cases k <;> simp_all [State.classOk]

/-- The kinds whose entry reports and changes nothing. -/
def RequestKind.reports : List RequestKind :=
  [.status, .getParam, .getWatch, .getProfile, .getContexts, .segmentInfo, .scan, .getEventEntry]

theorem execRequest_reports (s : State) (c : Call) {k : RequestKind} (hk : k ∈ RequestKind.reports) :
    (execRequest k c s).2 = s := by
  simp only [RequestKind.reports, List.mem_cons, List.not_mem_nil, or_false] at hk
  obtain rfl | rfl | rfl | rfl | rfl | rfl | rfl | rfl := hk
  · rfl
  · rw [execRequest, doGetParam]
    split
    · rfl
    · split
      · rfl
      · split <;> rfl
  · rw [execRequest, doGetWatch, withWatch]
    split
    · rfl
    · split <;> rfl
  · rw [execRequest, doGetProfile, withProfile]
    split
    · rfl
    · split <;> rfl
  · rfl
  · rw [execRequest, doSegmentInfo, withSegment]
    split
    · rfl
    · split <;> rfl
  · rw [execRequest, doScan]
    split
    · rfl
    · split
      · rfl
      · split <;> rfl
  · rw [execRequest, doGetEventEntry]
    split <;> rfl

/-- The effect of a request that passes its checks (R162). -/
theorem execRequest_moves (hmay : ∀ i, may i) (href : known → s.ReferenceInv) {k : RequestKind} {c : Call}
    (horigin : c.origin ∈ s.session.origins.map Origin.addr) (hclass : s.classOk k c = true) :
    Moves known may s (execRequest k c s).2 := by
  have hholder (hcontrol : k.isControl c.body = true) (ha : k ≠ .ackNotices) (ht : k ≠ .takeover) :
      s.session.holder ≠ none := by
    simp [State.holder_of_classOk hclass hcontrol ha ht]
  cases k with
  | status | getContexts => exact .refl
  | getParam | getWatch | getProfile | segmentInfo | scan | getEventEntry =>
    rw [execRequest_reports s c (by simp [RequestKind.reports])]
  | setParam => exact doSetParam_moves c
  | readCounters => exact doReadCounters_moves c
  | clear => exact doClear_moves hmay href c
  | setHistory => exact doSetHistory_moves c
  | loadWatch => exact doLoadWatch_moves hmay c
  | clearWatch => exact doClearWatch_moves hmay c
  | arm => exact doArm_moves hmay c
  | disarm => exact doDisarm_moves hmay c
  | armGroup => exact doArmGroup_moves hmay c
  | disarmGroup => exact doDisarmGroup_moves hmay c
  | force => exact doForce_moves hmay c
  | loadProfile => exact doLoadProfile_moves c
  | clearProfile => exact doClearProfile_moves c
  | abortCapture => exact doAbortCapture_moves c
  | formatRing => exact doFormatRing_moves hmay c
  | readSegment => exact doReadSegment_moves (hholder rfl (by decide) (by decide)) c
  | releaseSegment => exact doReleaseSegment_moves c
  | ackNotices => exact doAckNotices_moves c
  | setEventEntry => exact doSetEventEntry_moves c
  | setTime => exact doSetTime_moves c
  | claim => exact doClaim_moves horigin
  | renew => exact State.loadLease_moves (hholder rfl (by decide) (by decide))
  | yield => exact State.clearLease_moves
  | takeover => exact doTakeover_moves horigin

/-! ### The handler -/

theorem State.restartLease_moves (control : Bool) (o : Addr) : Moves known may s (s.restartLease control o) := by
  refine Moves.ite (fun h => State.loadLease_moves ?_) fun _ => .refl
  simp only [Bool.and_eq_true, beq_iff_eq] at h
  simp [h.2]

theorem State.denied_moves (k : RequestKind) (c : Call) : Moves known may s (s.denied k c).2 := by
  rw [State.denied]
  split
  · exact (Quiet.draw s).moves
  · exact .refl

/-- The checks of R162 and the execution, for an origin in the table. -/
theorem State.dispose_moves (hmay : ∀ i, may i) (href : known → s.ReferenceInv) (code : BitVec 8) {c : Call}
    (horigin : c.origin ∈ s.session.origins.map Origin.addr) : Moves known may s (s.dispose code c).2 := by
  rw [State.dispose]
  split
  · exact .refl
  · refine Relation.ReflTransGen.trans ?_ (State.restartLease_moves _ _)
    split
    · exact .refl
    · split
      · exact execRequest_moves hmay href horigin ‹_›
      · exact State.denied_moves _ c

/-! ### The origin table -/

theorem evictOrigin_sublist (holder : Option Addr) (l : List Origin) : (evictOrigin holder l).Sublist l := by
  have h : (l.reverse.eraseP fun e => holder != some e.addr).Sublist l.reverse := List.eraseP_sublist
  simpa [evictOrigin] using h.reverse

theorem otherOrigins_sublist (holder : Option Addr) (o : Addr) (l : List Origin) :
    (otherOrigins holder o l).Sublist l := by
  rw [otherOrigins]
  split
  · exact List.filter_sublist
  · split
    · exact .refl l
    · exact evictOrigin_sublist holder l

/-- A full table of distinct origins has an entry to evict: not all of them are the holder. -/
theorem length_evictOrigin_lt {holder : Option Addr} {l : List Origin} (hl : 2 ≤ l.length)
    (hdistinct : (l.map Origin.addr).Nodup) : (evictOrigin holder l).length < l.length := by
  have hany : ∃ e ∈ l, holder ≠ some e.addr := by
    match l, hl, hdistinct with
    | a :: b :: l, _, hdistinct =>
      by_cases ha : holder = some a.addr
      · refine ⟨b, by simp, ?_⟩
        rintro hb
        rw [ha, Option.some.injEq] at hb
        simp [hb] at hdistinct
      · exact ⟨a, by simp, ha⟩
  obtain ⟨e, he, hne⟩ := hany
  have hlength := List.length_eraseP_of_mem (p := fun e : Origin => holder != some e.addr) (List.mem_reverse.2 he)
    (by simpa using hne)
  rw [evictOrigin, List.length_reverse, hlength, List.length_reverse]
  omega

theorem length_otherOrigins_lt {holder : Option Addr} {o : Addr} {l : List Origin}
    (hl : l.length ≤ Config.maxOrigins) (hdistinct : (l.map Origin.addr).Nodup) :
    (otherOrigins holder o l).length < Config.maxOrigins := by
  rw [otherOrigins]
  split
  · rename_i hany
    rw [List.any_eq_true] at hany
    refine Nat.lt_of_lt_of_le ?_ hl
    refine List.length_filter_lt_length_iff_exists.2 ?_
    obtain ⟨e, he, haddr⟩ := hany
    exact ⟨e, he, by simpa using haddr⟩
  · split
    · assumption
    · rename_i hfull
      have htwo : 2 ≤ Config.maxOrigins := by decide
      exact (length_evictOrigin_lt (htwo.trans (Nat.not_lt.1 hfull)) hdistinct).trans_le hl

/-- The holder's entry is not evicted (R160). -/
theorem mem_otherOrigins_of_holder {h o : Addr} {l : List Origin} {e : Origin} (he : e ∈ l) (haddr : e.addr = h)
    (hne : h ≠ o) : e ∈ otherOrigins (some h) o l := by
  subst haddr
  rw [otherOrigins]
  split
  · exact List.mem_filter.2 ⟨he, by simpa using hne⟩
  · split
    · exact he
    · rw [evictOrigin, List.mem_reverse, List.mem_eraseP_of_neg (by simp), List.mem_reverse]
      exact he

theorem State.SessionInv.touchOrigin (h : s.SessionInv) (o : Addr) : (s.touchOrigin o).SessionInv := by
  have hsub := otherOrigins_sublist s.session.holder o s.session.origins
  constructor
  case entries => exact length_otherOrigins_lt h.entries h.distinct
  case distinct =>
    rw [State.touchOrigin_session, List.map_cons, List.nodup_cons, originEntry_addr]
    refine ⟨?_, (hsub.map _).nodup h.distinct⟩
    rintro hmem
    obtain ⟨e, he, haddr⟩ := List.mem_map.1 hmem
    exact otherOrigins_addr _ _ _ e he haddr
  case timer => exact h.timer
  case present =>
    intro x hx
    rw [State.touchOrigin_session, List.map_cons, List.mem_cons, originEntry_addr]
    by_cases hxo : x = o
    · exact .inl hxo
    · obtain ⟨e, he, haddr⟩ := List.mem_map.1 (h.present x hx)
      have hholder : s.session.holder = some x := hx
      exact .inr (List.mem_map.2 ⟨e, hholder ▸ mem_otherOrigins_of_holder he haddr hxo, haddr⟩)
  case cached =>
    intro e l he hl
    rw [State.touchOrigin_session, List.mem_cons] at he
    obtain rfl | he := he
    · rw [originEntry] at hl
      split at hl
      · cases hl
      · exact h.cached _ l (List.mem_of_find?_eq_some ‹_›) hl
    · exact h.cached e l (hsub.subset he) hl

theorem Move.touchOrigin (o : Addr) : Move known may s (s.touchOrigin o) :=
  .session _ fun h hreading => ⟨h.touchOrigin o, hreading⟩

theorem State.mem_touchOrigin (s : State) (o : Addr) : o ∈ (s.touchOrigin o).session.origins.map Origin.addr := by
  rw [State.touchOrigin_session, List.map_cons, originEntry_addr]
  exact List.mem_cons_self

theorem State.responseWords_kind (s : State) (o : Addr) (seq code : BitVec 8) (replayed : Bool) (r : Reply) :
    3 ≤ (s.responseWords o seq code replayed r).length ∧ kindOf (s.responseWords o seq code replayed r) = some .response := by
  constructor
  · simp [State.responseWords]
  · simp [State.responseWords, kindOf, kindField, wordOf]

theorem Move.cacheResponse (o : Addr) (seq : BitVec 8) {content : List Word}
    (hcontent : 3 ≤ content.length ∧ kindOf content = some .response) :
    Move known may s (s.cacheResponse o seq content) := by
  have haddr : (s.cacheResponse o seq content).session.origins.map Origin.addr = s.session.origins.map Origin.addr := by
    rw [State.cacheResponse, List.map_map]
    refine List.map_congr_left fun e _ => ?_
    rw [Function.comp_apply]
    split
    · exact ‹e.addr = o›.symm
    · rfl
  refine .session _ fun h hreading => ⟨⟨?_, haddr ▸ h.distinct, h.timer, fun x hx => haddr ▸ h.present x hx, ?_⟩, hreading⟩
  · exact (List.length_map _).trans_le h.entries
  · intro e l he hl
    obtain ⟨x, hx, rfl⟩ := List.mem_map.1 he
    split at hl
    · cases hl
      exact hcontent
    · exact h.cached x l hx hl

/-- A served request. -/
theorem State.serve_moves (hmay : ∀ i, may i) (href : known → s.ReferenceInv) (o : Addr) (seq code : BitVec 8) (room : Nat)
    (body : List Word) : Moves known may s (s.serve o seq code room body).2 := by
  have htouched : Moves known may s (s.touchOrigin o) := (Move.touchOrigin o).moves
  rw [State.serve]
  dsimp only
  split
  · exact htouched.trans (Quiet.bump _ _ _).moves
  · have hdisposed : Moves known may (s.touchOrigin o)
        ((s.touchOrigin o).dispose code { origin := o, room := room, body := body }).2 :=
      State.dispose_moves hmay (fun hk => Moves.reference htouched hk (href hk)) code (s.mem_touchOrigin o)
    exact (htouched.trans hdisposed).tail (.cacheResponse o seq (State.responseWords_kind _ _ _ _ _ _))

end Sys2Proof.Machine
end

section
/-! Every step as a sequence of changes: the moves of the blocks, changes of the port, the lines and the queue of commands, and
the release of RESETn. -/

namespace Sys2Proof.Machine

/-- Nothing has changed but the pins, the port, the line unit and the queue of commands. -/
def Bare (s t : State) : Prop :=
  t = { s with resetLow := t.resetLow, port := t.port, lines := t.lines, pending := t.pending }

/-- A change of the node. -/
inductive Change (known : Prop) (s : State) : State → Prop
  | move {t : State} (h : Move known (fun _ => True) s t) : Change known s t
  | bare {t : State} (h : Bare s t) : Change known s t
  | released (straps : Addr) (level0 level1 : Bool) (out : List OutItem) (script : List Nat) (draws : Nat)
      (queue : List Instr) : Change known s (State.released straps level0 level1 out script draws queue)

/-- A sequence of changes. -/
abbrev Changes (known : Prop) : State → State → Prop :=
  Relation.ReflTransGen (Change known)

variable {known : Prop} {s t u : State}

theorem Moves.changes (h : Moves known (fun _ => True) s t) : Changes known s t :=
  Relation.ReflTransGen.mono (fun _ _ hm => .move hm) _ _ h

theorem Bare.changes (h : Bare s t) : Changes known s t := .single (.bare h)

/-- What every change keeps, every sequence of changes keeps. -/
theorem Changes.keep {P : State → Prop} (h : Changes known s t)
    (hchange : ∀ {s t : State}, Change known s t → P s → P t) (hs : P s) : P t := by
  induction h with
  | refl => exact hs
  | tail _ hlast ih => exact hchange hlast ih

theorem Bare.reference (h : Bare s t) (hs : s.ReferenceInv) : t.ReferenceInv :=
  hs.of_tables (by rw [show t = _ from h]) (by rw [show t = _ from h])

/-! ### Frames -/

theorem State.route_changes (href : known → s.ReferenceInv) (ws : List Word) : Changes known s (s.route ws) := by
  have hsent (x : OutItem) : Bare s (s.emit x) := rfl
  have href' {t : State} (ht : Bare s t) (hk : known) : t.ReferenceInv := ht.reference (href hk)
  have hmay (i : Fin 32) : True := trivial
  rw [State.route]
  split
  case h_1 =>
    have hstamped : Bare s { s.emit (.frame (stamped s.port.markWord ws)) with
      port := { (s.emit (.frame (stamped s.port.markWord ws))).port with markWord := 0 } } := rfl
    exact hstamped.changes.trans (State.acceptSweep_moves _ _ _ (href' hstamped)).changes
  case h_3 =>
    exact (State.serve_moves hmay href _ _ _ _ _).changes.trans (Bare.changes rfl)
  case h_9 =>
    exact (Quiet.offer s).moves.changes.trans (Bare.changes rfl)
  case h_4 | h_5 => exact (hsent _).changes.trans (State.eventArrives_moves hmay _ _).changes
  case h_6 | h_7 => exact (hsent _).changes.trans (State.loopReset_moves hmay (href' (hsent _))).changes
  case h_2 | h_8 | h_10 => exact (hsent _).changes

/-- The state with a damaged frame replaced and counted (R4, R6). -/
def State.damagedCounted (s : State) (ws : List Word) : State :=
  let t := (s.emit (.frame (idleFrame true (damagedLength ws.length)))).bump .damagedFrames 1
  { t with port := t.port.countDamaged }

theorem State.damagedArrives_eq (s : State) (ws : List Word) :
    s.damagedArrives ws =
      if s.port.link = .up ∧ min (s.port.damagedCount + 1) 8 = 8 then (s.damagedCounted ws).upToHunt
      else s.damagedCounted ws := rfl

theorem State.damagedCounted_changes (ws : List Word) : Changes known s (s.damagedCounted ws) := by
  have hsent : Bare s (s.emit (.frame (idleFrame true (damagedLength ws.length)))) := rfl
  have hbumped : Changes known s ((s.emit (.frame (idleFrame true (damagedLength ws.length)))).bump .damagedFrames 1) :=
    hsent.changes.trans (Quiet.bump _ .damagedFrames 1).moves.changes
  have hcounted : Bare ((s.emit (.frame (idleFrame true (damagedLength ws.length)))).bump .damagedFrames 1)
      (s.damagedCounted ws) := rfl
  exact hbumped.trans hcounted.changes

theorem State.upToHunt_changes : Changes known s s.upToHunt := by
  have hhunt : Bare s { s with port := { s.port with link := .hunt, validCount := 0, damagedCount := 0 } } := rfl
  exact hhunt.changes.trans (State.departUp_moves fun _ => trivial).changes

theorem Changes.ite {p : Prop} [Decidable p] (ht : p → Changes known s t) (hu : ¬p → Changes known s u) :
    Changes known s (if p then t else u) := by
  split
  · exact ht ‹p›
  · exact hu ‹¬p›

theorem State.damagedArrives_changes (ws : List Word) : Changes known s (s.damagedArrives ws) := by
  rw [State.damagedArrives_eq]
  have hcounted : Changes known s (s.damagedCounted ws) := State.damagedCounted_changes ws
  exact Changes.ite (fun _ => hcounted.trans State.upToHunt_changes) fun _ => hcounted

theorem State.enterUp_changes : Changes known s s.enterUp := by
  have hup : Bare s { s with port := { s.port with link := .up, validCount := 0, damagedCount := 0, downSeen := false } } :=
    rfl
  rw [State.enterUp]
  dsimp only
  split
  · exact hup.changes.trans (Quiet.post _ _ _ _).moves.changes
  · exact hup.changes

theorem State.huntValid_changes (ws : List Word) : Changes known s (s.huntValid ws) := by
  have hcounted : Bare s { s.emit (.frame ws) with port := (s.emit (.frame ws)).port.countValid } := rfl
  rw [State.huntValid]
  dsimp only
  split
  · exact hcounted.changes.trans State.enterUp_changes
  · exact hcounted.changes

theorem State.arrive_changes (href : known → s.ReferenceInv) (ws : List Word) : Changes known s (s.arrive ws) := by
  have hcounted : Bare s s.countValid := rfl
  rw [State.arrive]
  split
  · exact Bare.changes rfl
  · split
    · exact .refl
    · split
      · exact State.huntValid_changes ws
      · exact State.damagedArrives_changes ws
    · rw [State.upArrives]
      split
      · split
        · exact hcounted.changes.trans (State.route_changes (fun hk => hcounted.reference (href hk)) ws)
        · exact Bare.changes rfl
      · exact State.damagedArrives_changes ws

/-! ### The other commands -/

theorem State.enterDown_changes : Changes known s s.enterDown := by
  have hmark : Changes known s s.markDown := (Quiet.bump s .linkDowns 1).moves.changes.trans (Bare.changes rfl)
  rw [State.enterDown]
  split
  · exact .refl
  · exact hmark
  · exact hmark.trans (State.departUp_moves fun _ => trivial).changes

/-- A command takes the state through changes. -/
theorem exec_changes {c : Instr} (href : known → s.ReferenceInv) (h : exec c s = .next t) : Changes known s t := by
  have hmay (i : Fin 32) : True := trivial
  have hframe {ws : List Word} (hws : frameOf c = some ws) : Changes known s t := by
    rw [exec_of_frameOf hws] at h
    cases h
    exact State.arrive_changes href ws
  cases c with
  | powerOnResetRelease straps copied => cases h; exact .single (.released _ _ _ _ _ _ _)
  | resetnFall sent => cases h; exact Changes.ite (fun _ => .refl) fun _ => Bare.changes rfl
  | sendBreak => cases h; exact Changes.ite (fun _ => Bare.changes rfl) fun _ => .refl
  | startDelimiter signal => cases h; exact Changes.ite (fun _ => Bare.changes rfl) fun _ => .refl
  | lossOfSignal => cases h; exact Changes.ite (fun _ => .refl) fun _ => State.enterDown_changes
  | silenceTimerExpiry => cases h; exact Changes.ite (fun _ => .refl) fun _ => State.enterDown_changes
  | resendTimerRunOut number =>
    cases h; exact Changes.ite (fun _ => .refl) fun _ => (Quiet.resendRunsOut s number).moves.changes
  | eventExpiry place =>
    cases h; exact Changes.ite (fun _ => .refl) fun _ => (State.eventExpires_moves hmay place).changes
  | tinLevelChange line high => cases h; exact Bare.changes rfl
  | candidateTimerRunOut line =>
    cases h; exact Changes.ite (fun _ => .refl) fun _ => (State.candidateRunsOut_moves hmay line).changes
  | pulseTimerRunOut line =>
    cases h
    refine Changes.ite (fun _ => .refl) fun _ => ?_
    cases line <;> exact Bare.changes rfl
  | leaseExpiry => cases h; exact Changes.ite (fun _ => .refl) fun _ => State.leaseExpires_moves.changes
  | _ => exact hframe rfl

theorem tickTimer_isSome (x : Timer) : (tickTimer x).isSome = x.isSome :=
  match x with
  | none | some 0 | some 1 | some (_ + 2) => rfl

/-- The passing of 100 ns. -/
theorem State.tick_changes : Changes known s s.tick := by
  refine Changes.ite (fun _ => .refl) fun _ => ?_
  have hquiet : Quiet s { s with
      notices := { s.notices with queue := s.notices.queue.map Notice.tick }
      events := { s.events with waiting := s.events.waiting.map WaitingEvent.tick, timeBase := s.events.timeBase + 1 } } :=
    rfl
  refine (hquiet.moves.changes.tail (.move (.session { s.session with leaseTimer := tickTimer s.session.leaseTimer }
    fun h hreading => ⟨⟨h.entries, h.distinct, ?_, h.present, h.cached⟩, hreading⟩))).trans (Bare.changes rfl)
  rw [tickTimer_isSome]
  exact h.timer

/-- Every step is a sequence of changes. -/
theorem step_changes (h : step s = .next t) : Changes s.ReferenceInv s t := by
  rw [step] at h
  split at h
  · cases h
    exact State.tick_changes
  · rename_i c rest _
    have htaken : Bare s { s with pending := rest } := rfl
    exact htaken.changes.trans (exec_changes htaken.reference h)

end Sys2Proof.Machine
end

section
/-! The session's invariant (R160, R163, R165) and READING only under a lease (R116), kept by every step. -/

namespace Sys2Proof.Machine

variable {known : Prop} {may : Fin 32 → Prop} {s t : State}

/-- The ring of a capture's end: the segment is FULL with the fill and joins the completed list (R93, R107). -/
theorem State.endCapture_ring {k : Fin 4} {c : Context} (hc : s.contexts[k] = some c) (reason : EndReason) :
    (s.endCapture k reason).ring = { s.ring with
      mem := Memory.writeAll s.ring.mem (s.ring.base c.segment + 0) [c.word0 reason]
      segs := setAt s.ring.segs c.segment
        (s.ring.segs[c.segment].map fun x => { x with state := .full, endReason := reason, fill := c.used })
      completed := s.ring.completed ++ [c.segment] } := by
  rw [State.endCapture_active hc, State.endNotified_frame]
  rfl

theorem State.endCapture_session (k : Fin 4) (reason : EndReason) : (s.endCapture k reason).session = s.session := by
  cases hc : s.contexts[k] with
  | none => rw [State.endCapture_idle hc]
  | some c =>
    rw [State.endCapture_active hc, State.endNotified_frame]
    rfl

theorem State.dropAll_session (s : State) : s.dropAll.session = s.session := by
  refine List.foldlRecOn (motive := fun t : State => t.session = s.session) _ _ rfl fun t ht k _ => ?_
  cases hc : t.contexts[k] with
  | none => rw [State.dropCapture_idle hc, ht]
  | some c => rw [State.dropCapture_active hc, ht]

theorem State.SessionInv.congr (h : s.SessionInv) (hx : t.session = s.session) : t.SessionInv := by
  obtain ⟨entries, distinct, timer, present, cached⟩ := h
  rw [← hx] at entries distinct timer present cached
  exact ⟨entries, distinct, timer, present, cached⟩

/-- Segments that were not READING are not READING either. -/
def Unread (s t : State) : Prop :=
  ∀ (g : Fin 64) (x : Segment), t.ring.segs[g] = some x → x.state = .reading →
    ∃ y, s.ring.segs[g] = some y ∧ y.state = .reading

theorem Unread.of_segs (h : t.ring.segs = s.ring.segs) : Unread s t := fun _ x hx hs => ⟨x, h ▸ hx, hs⟩

/-- One segment is replaced by one that is not READING, or was so before. -/
theorem Unread.setAt {g : Fin 64} {o : Option Segment} (h : t.ring.segs = Machine.setAt s.ring.segs g o)
    (ho : ∀ x, o = some x → x.state = .reading → ∃ y, s.ring.segs[g] = some y ∧ y.state = .reading) : Unread s t := by
  intro j x hx hs
  rw [h, getElem_setAt] at hx
  split at hx
  · subst ‹g = j›
    exact ho x hx hs
  · exact ⟨x, hx, hs⟩

theorem State.ReadingInv.unread (h : s.ReadingInv) (hholder : t.session.holder = s.session.holder) (hunread : Unread s t) :
    t.ReadingInv := by
  intro hnone g x hx hs
  obtain ⟨y, hy, hys⟩ := hunread g x hx hs
  exact h (hholder ▸ hnone) g y hy hys

/-- The record of a segment that is granted (R106, R109). -/
def Segment.granted (ctx : Fin 4) (sequence : BitVec 32) (auto : Bool) : Segment :=
  { state := .filling ctx, sequence := sequence, fill := Config.headerWords, highWater := 0, autoRelease := auto,
    endReason := .inProgress }

theorem State.allocate_segs {ctx : Fin 4} {sequence : BitVec 32} {prof : Profile} {g : Fin 64}
    (h : s.allocate ctx sequence prof = some (g, t)) :
    t.ring.segs = setAt s.ring.segs g (some (Segment.granted ctx sequence prof.autoRelease)) := by
  obtain ⟨-, -, rfl⟩ | ⟨-, -, rfl⟩ := State.allocate_cases h
  · rw [State.ringLowTest_frame]
    rfl
  · rw [State.grant, State.post_frame]
    rfl

/-- No move but a change of the session makes a segment READING, unless there is a holder. -/
theorem Move.unread (h : Move known may s t) : t.session = s.session ∧ (s.session.holder = none → Unread s t) ∨
    ∃ x, t = { s with session := x } ∧ (s.SessionInv → s.ReadingInv → t.SessionInv ∧ t.ReadingInv) := by
  cases h with
  | session x h => exact .inr ⟨x, rfl, h⟩
  | quiet h => exact .inl ⟨h.session, fun _ => .of_segs (by rw [show t = _ from h])⟩
  | returned =>
    refine .inl ⟨s.readingReturn_session, fun _ g x hx hs => absurd hs (s.readingReturn_not_reading g x hx)⟩
  | served g x n hx _ hholder => exact .inl ⟨rfl, fun hnone => absurd hnone hholder⟩
  | freed g x _ _ => exact .inl ⟨rfl, fun _ => .setAt rfl fun _ h => by cases h⟩
  | emptied r hr _ _ =>
    refine .inl ⟨rfl, fun _ g x hx => ?_⟩
    rw [hr.segs, getElem_replicate_fin] at hx
    cases hx
  | discarded r hr _ _ =>
    refine .inl ⟨s.dropAll_session, fun _ g x hx => ?_⟩
    rw [hr.segs, getElem_replicate_fin] at hx
    cases hx
  | ended k reason =>
    refine .inl ⟨State.endCapture_session k reason, fun _ => ?_⟩
    cases hc : s.contexts[k] with
    | none => exact .of_segs (by rw [State.endCapture_idle hc])
    | some c =>
      refine .setAt (by rw [State.endCapture_ring hc]) fun x hx hs => ?_
      obtain ⟨y, -, rfl⟩ := Option.map_eq_some_iff.1 hx
      cases hs
  | opened trigger _ _ hgrant _ _ =>
    have hsession := congrArg State.session (State.allocate_frame hgrant)
    have hsegs := State.allocate_segs hgrant
    refine .inl ⟨hsession, fun _ => .setAt hsegs fun x hx hs => ?_⟩
    cases hx
    cases hs
  | row values pre gap _ _ =>
    refine .inl ⟨by rw [show State.writeRow .. = _ from SameButRows.writeRow ..], fun _ => ?_⟩
    refine .setAt (g := _) (o := _) rfl fun x hx hs => ?_
    obtain ⟨y, hy, rfl⟩ := Option.map_eq_some_iff.1 hx
    exact ⟨y, hy, hs⟩
  | _ => exact .inl ⟨rfl, fun _ => .of_segs rfl⟩

theorem Move.session_whole (h : Move known may s t) (hs : s.SessionInv ∧ s.ReadingInv) : t.SessionInv ∧ t.ReadingInv := by
  obtain ⟨hx, hunread⟩ | ⟨x, rfl, hx⟩ := h.unread
  · refine ⟨hs.1.congr hx, fun hnone => ?_⟩
    rw [hx] at hnone
    exact State.ReadingInv.unread hs.2 (by rw [hx]) (hunread hnone) (hx ▸ hnone)
  · exact hx hs.1 hs.2

theorem State.released_session (straps : Addr) (level0 level1 : Bool) (out : List OutItem) (script : List Nat) (draws : Nat)
    (queue : List Instr) :
    (State.released straps level0 level1 out script draws queue).SessionInv ∧
      (State.released straps level0 level1 out script draws queue).ReadingInv := by
  refine ⟨⟨Nat.zero_le _, List.nodup_nil, Iff.rfl, fun _ h => by (cases h), fun _ _ h => by (cases h)⟩, fun _ g x hx => ?_⟩
  exact absurd ((getElem_replicate_fin (none : Option Segment) g).symm.trans hx) (by simp)

theorem Change.session_whole (h : Change known s t) (hs : s.SessionInv ∧ s.ReadingInv) : t.SessionInv ∧ t.ReadingInv := by
  cases h with
  | move h => exact h.session_whole hs
  | bare h =>
    rw [show t = _ from h]
    exact ⟨hs.1.congr rfl, State.ReadingInv.unread hs.2 rfl (.of_segs rfl)⟩
  | released => exact State.released_session ..

/-- Settles O53: every step is a sequence of changes, and each keeps the session and the READING segments in agreement. -/
theorem sessionStaysWhole : Obligations.SessionStaysWhole := fun _ _ hs h => (step_changes h).keep Change.session_whole hs

end Sys2Proof.Machine
end

section
/-! A watch that is ARMED, FIRED or in HOLDOFF finds its action profile loaded (R80), kept by every step along with the
references of contexts to watches (R37). -/

namespace Sys2Proof.Machine

variable {known : Prop} {may : Fin 32 → Prop} {s t : State}

/-- Watches that hold a profile held the same one before. -/
theorem State.LoadedInv.of_held (h : s.LoadedInv) (hprofiles : t.profiles = s.profiles)
    (hheld : ∀ (i : Fin 32) (w : Watch), t.watches[i] = some w → w.state.holds = true →
      ∃ v, s.watches[i] = some v ∧ v.state.holds = true ∧ v.contents.profile = w.contents.profile) : t.LoadedInv := by
  intro i w p hw hp hs
  obtain ⟨v, hv, hvs, hvp⟩ := hheld i w hw hs
  rw [hprofiles]
  exact h i v p hv (hvp.trans hp) hvs

theorem State.LoadedInv.congr (h : s.LoadedInv) (hprofiles : t.profiles = s.profiles) (hwatches : t.watches = s.watches) :
    t.LoadedInv :=
  State.LoadedInv.of_held h hprofiles fun _ w hw hs => ⟨w, hwatches ▸ hw, hs, rfl⟩

/-- The end step of the watch a context refers to, which is FIRED (R75). -/
theorem State.LoadedInv.released (h : s.LoadedInv) (href : s.ReferenceInv) (k : Fin 4) (hprofiles : t.profiles = s.profiles)
    (hwatches : t.watches = watchesReleased s.watches (s.refOf k)) : t.LoadedInv := by
  refine State.LoadedInv.of_held h hprofiles fun i w hw hs => ?_
  rw [hwatches] at hw
  cases hk : s.refOf k with
  | none =>
    rw [hk] at hw
    exact ⟨w, hw, hs, rfl⟩
  | some j =>
    rw [hk, watchesReleased, getElem_setAt] at hw
    split at hw
    · subst ‹j = i›
      obtain ⟨v, hv, rfl⟩ := Option.map_eq_some_iff.1 hw
      obtain ⟨x, hx, hfired⟩ := isFired_iff.1 ((((State.referenceInv_iff s).1 href).1 j).2 ⟨k, hk⟩)
      cases hv.symm.trans hx
      exact ⟨v, hv, by rw [hfired]; rfl, by rw [Watch.endStep_contents]⟩
    · exact ⟨w, hw, hs, rfl⟩

theorem State.refOf_active {k : Fin 4} {c : Context} (hc : s.contexts[k] = some c) : s.refOf k = c.watchRef := by
  rw [State.refOf, hc]
  rfl

theorem State.LoadedInv.endCapture (h : s.LoadedInv) (href : s.ReferenceInv) (k : Fin 4) (reason : EndReason) :
    (s.endCapture k reason).LoadedInv := by
  cases hc : s.contexts[k] with
  | none => rwa [State.endCapture_idle hc]
  | some c =>
    refine State.LoadedInv.released h href k ?_ ?_
    · rw [State.endCapture_active hc, State.endNotified_frame]
      rfl
    · rw [State.endCapture_active hc, State.refOf_active hc]

theorem State.LoadedInv.dropAll (h : s.LoadedInv) (href : s.ReferenceInv) : s.dropAll.LoadedInv := by
  refine (List.foldlRecOn (motive := fun t : State => t.ReferenceInv ∧ t.LoadedInv) _ _ ⟨href, h⟩ ?_).2
  rintro t ⟨href, h⟩ k -
  refine ⟨href.dropCapture k, ?_⟩
  cases hc : t.contexts[k] with
  | none => rwa [State.dropCapture_idle hc]
  | some c =>
    rw [State.dropCapture_active hc]
    exact State.LoadedInv.released h href k rfl (by rw [State.refOf_active hc])

/-- The ARMED watch of an opening becomes FIRED (R85). -/
theorem State.LoadedInv.begun (h : s.LoadedInv) {ctx : Fin 4} {w : Fin 32} {p : Fin 8} {prof : Profile} {g : Fin 64}
    (trigger : Option Sweep) (harmed : isArmed s.watches[w] = true) : (s.begun ctx w p prof g trigger).LoadedInv := by
  refine State.LoadedInv.of_held h rfl fun i x hx hs => ?_
  rw [show (s.begun ctx w p prof g trigger).watches =
    setAt s.watches w (s.watches[w].map fun x => { x with state := .fired }) from rfl, getElem_setAt] at hx
  split at hx
  · subst ‹w = i›
    obtain ⟨v, hv, hstate⟩ := isArmed_iff.1 harmed
    rw [hv] at hx
    cases hx
    exact ⟨v, hv, by rw [hstate]; rfl, rfl⟩
  · exact ⟨x, hx, hs, rfl⟩

theorem Move.loaded (h : Move known may s t) (hknown : known) (href : s.ReferenceInv) (hs : s.LoadedInv) : t.LoadedInv := by
  cases h with
  | quiet h => exact State.LoadedInv.congr hs h.profiles h.watches
  | watches v h _ =>
    intro i w p hw hp hh
    obtain hloaded | ⟨v, hv, hvs, hvp⟩ := (h hknown i).2 w hw hh
    · exact hloaded p hp
    · exact hs i v p hv (hvp.trans hp) hvs
  | orphaned i _ =>
    refine State.LoadedInv.of_held hs rfl fun j w hw hh => ?_
    rw [State.orphan_watches, State.modifyWatch_watches, getElem_setAt] at hw
    split at hw
    · obtain ⟨v, -, rfl⟩ := Option.map_eq_some_iff.1 hw
      cases hh
    · exact ⟨w, hw, hh, rfl⟩
  | profiles v _ hl => exact hl hs
  | discarded r _ _ _ => exact State.LoadedInv.congr (State.LoadedInv.dropAll hs href) rfl rfl
  | ended k reason => exact State.LoadedInv.endCapture hs href k reason
  | opened trigger _ _ hgrant harmed _ =>
    have hframe := State.allocate_frame hgrant
    have hw := congrArg State.watches hframe
    have hp := congrArg State.profiles hframe
    exact State.LoadedInv.begun (State.LoadedInv.congr hs hp hw) trigger (hw ▸ harmed hknown)
  | row values pre gap _ _ =>
    exact State.LoadedInv.congr hs (SameButRows.writeRow ..).profiles (SameButRows.writeRow ..).watches
  | returned => exact State.LoadedInv.congr hs s.readingReturn_profiles s.readingReturn_watches
  | _ => exact State.LoadedInv.congr hs rfl rfl

/-- With every watch EMPTY and every context IDLE nothing is FIRED and nothing held. -/
theorem State.referred_of_empty (hw : s.watches = Vector.replicate 32 none) (hc : s.contexts = Vector.replicate 4 none) :
    s.ReferenceInv ∧ s.LoadedInv := by
  have hwatch (i : Fin 32) : s.watches[i] = none := by rw [hw, getElem_replicate_fin]
  have hidle (k : Fin 4) : s.contexts[k] = none := by rw [hc, getElem_replicate_fin]
  refine ⟨⟨fun i w h => ?_, fun k c i h => ?_, fun k l c d i h => ?_⟩, fun i w p h => ?_⟩
  · simp [hwatch i] at h
  · simp [hidle k] at h
  · simp [hidle k] at h
  · simp [hwatch i] at h

theorem Change.referred (h : Change known s t) (hknown : known) (hs : s.ReferenceInv ∧ s.LoadedInv) :
    t.ReferenceInv ∧ t.LoadedInv := by
  cases h with
  | move h => exact ⟨h.reference hknown hs.1, h.loaded hknown hs.1 hs.2⟩
  | bare h => exact ⟨h.reference hs.1, State.LoadedInv.congr hs.2 (by rw [show t = _ from h]) (by rw [show t = _ from h])⟩
  | released => exact State.referred_of_empty rfl rfl

/-- Settles O55: every step is a sequence of changes, and each keeps the references and the profiles that watches hold. -/
theorem firedWatchesStayReferred : Obligations.FiredWatchesStayReferred := fun _ _ hs h =>
  (step_changes h).keep (fun hchange => hchange.referred hs.1) hs

end Sys2Proof.Machine
end

section
/-! The ring's invariant (R101, R107, R108), read off the tables as who fills which segment and which segments hold a record,
and kept by every step. -/

namespace Sys2Proof.Machine

variable {known : Prop} {may : Fin 32 → Prop} {s t : State}

/-! ### The ring read off the tables -/

/-- The segment that an ACTIVE context owns. -/
def State.segmentOf (s : State) (k : Fin 4) : Option (Fin 64) := (s.contexts[k]).map Context.segment

/-- The context that fills a segment. -/
def Ring.fillerOf (r : Ring) (g : Fin 64) : Option (Fin 4) := (r.segs[g]).bind fun x => x.state.context

/-- The segment holds a finished record: it is FULL or READING. -/
def Ring.recordAt (r : Ring) (g : Fin 64) : Bool := (r.segs[g]).any fun x => !x.state.isFilling

theorem SegmentState.context_eq_some_iff {x : SegmentState} {k : Fin 4} : x.context = some k ↔ x = .filling k := by
  cases x <;> simp [SegmentState.context]

theorem Ring.fillerOf_eq_some_iff {r : Ring} {g : Fin 64} {k : Fin 4} :
    r.fillerOf g = some k ↔ ∃ x, r.segs[g] = some x ∧ x.state = .filling k := by
  simp [Ring.fillerOf, Option.bind_eq_some_iff, SegmentState.context_eq_some_iff]

theorem Ring.recordAt_iff {r : Ring} {g : Fin 64} :
    r.recordAt g = true ↔ ∃ x, r.segs[g] = some x ∧ x.state.isFilling = false := by
  simp [Ring.recordAt, Option.any_eq_true]

theorem Ring.free_iff {r : Ring} {g : Fin 64} : r.segs[g] = none ↔ r.fillerOf g = none ∧ r.recordAt g = false := by
  rw [Ring.fillerOf, Ring.recordAt]
  cases r.segs[g] with
  | none => simp
  | some x => cases hx : x.state <;> simp [SegmentState.context, SegmentState.isFilling, hx]

theorem State.segmentOf_eq_some_iff {k : Fin 4} {g : Fin 64} :
    s.segmentOf k = some g ↔ ∃ c, s.contexts[k] = some c ∧ c.segment = g := by
  simp [State.segmentOf]

theorem State.ringInv_iff (s : State) :
    s.RingInv ↔ (2 ≤ s.ring.segCount ∧ s.ring.segCount ≤ 64) ∧
      (∀ k g, s.segmentOf k = some g ↔ s.ring.fillerOf g = some k) ∧
      (∀ g, g ∈ s.ring.completed ↔ s.ring.recordAt g = true) ∧ s.ring.completed.Nodup ∧
      ∀ g : Fin 64, s.ring.segCount ≤ g.val → s.ring.fillerOf g = none ∧ s.ring.recordAt g = false := by
  simp only [State.segmentOf_eq_some_iff, Ring.fillerOf_eq_some_iff, Ring.recordAt_iff, ← Ring.free_iff]
  constructor
  · rintro ⟨count, owned, owner, listed, once, outside⟩
    refine ⟨count, fun k g => ⟨?_, ?_⟩, listed, once, outside⟩
    · rintro ⟨c, hc, rfl⟩
      exact owned k c hc
    · rintro ⟨x, hx, hs⟩
      exact owner g x k hx hs
  · rintro ⟨count, owns, listed, once, outside⟩
    exact ⟨count, fun k c hc => (owns k c.segment).1 ⟨c, hc, rfl⟩, fun g x k hx hs => (owns k g).2 ⟨x, hx, hs⟩, listed, once,
      outside⟩

/-- The same contexts own the same segments, and the same segments hold a record. -/
theorem State.RingInv.congr (h : s.RingInv) (hsegment : ∀ k, t.segmentOf k = s.segmentOf k)
    (hfiller : ∀ g, t.ring.fillerOf g = s.ring.fillerOf g) (hrecord : ∀ g, t.ring.recordAt g = s.ring.recordAt g)
    (hcompleted : t.ring.completed = s.ring.completed) (hcount : t.ring.segCount = s.ring.segCount) : t.RingInv := by
  rw [State.ringInv_iff] at h ⊢
  simp only [hsegment, hfiller, hrecord, hcompleted, hcount]
  exact h

theorem State.RingInv.of_tables (h : s.RingInv) (hcontexts : t.contexts = s.contexts) (hsegs : t.ring.segs = s.ring.segs)
    (hcompleted : t.ring.completed = s.ring.completed) (hcount : t.ring.segCount = s.ring.segCount) : t.RingInv :=
  h.congr (fun k => by rw [State.segmentOf, hcontexts]; rfl) (fun g => by rw [Ring.fillerOf, hsegs]; rfl)
    (fun g => by rw [Ring.recordAt, hsegs]; rfl) hcompleted hcount

/-! ### One segment, one context -/

theorem Ring.fillerOf_setAt {v : Vector (Option Segment) 64} {r : Ring} {g : Fin 64} {o : Option Segment}
    (h : r.segs = setAt v g o) (j : Fin 64) :
    r.fillerOf j = if g = j then o.bind fun x => x.state.context else (v[j]).bind fun x => x.state.context := by
  rw [Ring.fillerOf, h, getElem_setAt]
  split <;> rfl

theorem Ring.recordAt_setAt {v : Vector (Option Segment) 64} {r : Ring} {g : Fin 64} {o : Option Segment}
    (h : r.segs = setAt v g o) (j : Fin 64) :
    r.recordAt j = if g = j then o.any fun x => !x.state.isFilling else (v[j]).any fun x => !x.state.isFilling := by
  rw [Ring.recordAt, h, getElem_setAt]
  split <;> rfl

theorem State.segmentOf_setAt {v : Vector (Option Context) 4} {k : Fin 4} {o : Option Context}
    (h : t.contexts = setAt v k o) (j : Fin 4) :
    t.segmentOf j = if k = j then o.map Context.segment else (v[j]).map Context.segment := by
  rw [State.segmentOf, h, getElem_setAt]
  split <;> rfl

/-- A segment's record changes, but not who fills it or whether it is finished. -/
theorem State.RingInv.record (h : s.RingInv) {g : Fin 64} {x : Option Segment}
    (hsegs : t.ring.segs = setAt s.ring.segs g x)
    (hfiller : (x.bind fun x => x.state.context) = s.ring.fillerOf g)
    (hrecord : (x.any fun x => !x.state.isFilling) = s.ring.recordAt g) (hsegment : ∀ k, t.segmentOf k = s.segmentOf k)
    (hcompleted : t.ring.completed = s.ring.completed) (hcount : t.ring.segCount = s.ring.segCount) : t.RingInv := by
  refine h.congr hsegment (fun j => ?_) (fun j => ?_) hcompleted hcount
  · rw [Ring.fillerOf_setAt hsegs, hfiller]
    split
    · rw [‹g = j›]
    · rfl
  · rw [Ring.recordAt_setAt hsegs, hrecord]
    split
    · rw [‹g = j›]
    · rfl

/-- A finished segment becomes FREE (R115, R117). -/
theorem State.RingInv.freed (h : s.RingInv) {g : Fin 64} (hunfilled : s.ring.fillerOf g = none) :
    (s.freeSegment g).RingInv := by
  rw [State.ringInv_iff] at h ⊢
  obtain ⟨count, owns, listed, once, outside⟩ := h
  have hsegs : (s.freeSegment g).ring.segs = setAt s.ring.segs g none := rfl
  have hfiller (j : Fin 64) : (s.freeSegment g).ring.fillerOf j = s.ring.fillerOf j := by
    rw [Ring.fillerOf_setAt hsegs]
    split
    · exact ‹g = j› ▸ hunfilled.symm
    · rfl
  have hrecord (j : Fin 64) : (s.freeSegment g).ring.recordAt j = if g = j then false else s.ring.recordAt j :=
    Ring.recordAt_setAt hsegs j
  refine ⟨count, fun k j => ?_, fun j => ?_, once.filter _, fun j hj => ?_⟩
  · rw [hfiller]
    exact owns k j
  · rw [hrecord, show (s.freeSegment g).ring.completed = s.ring.completed.filter fun x => x ≠ g from rfl, List.mem_filter,
      listed]
    by_cases hjg : g = j
    · simp [hjg]
    · simp [hjg, Ne.symm hjg]
  · obtain ⟨hj1, hj2⟩ := outside j hj
    rw [hfiller, hrecord, hj2]
    exact ⟨hj1, ite_self _⟩

/-- A FILLING segment becomes FULL, joins the completed list, and its context is IDLE (R107). -/
theorem State.RingInv.completed (h : s.RingInv) {k : Fin 4} {c : Context} (hc : s.contexts[k] = some c) {x : Segment}
    (hx : x.state = .full) (hcontexts : t.contexts = setAt s.contexts k none)
    (hsegs : t.ring.segs = setAt s.ring.segs c.segment (some x))
    (hcompleted : t.ring.completed = s.ring.completed ++ [c.segment]) (hcount : t.ring.segCount = s.ring.segCount) :
    t.RingInv := by
  rw [State.ringInv_iff] at h ⊢
  obtain ⟨count, owns, listed, once, outside⟩ := h
  have hown : s.segmentOf k = some c.segment := State.segmentOf_eq_some_iff.2 ⟨c, hc, rfl⟩
  have hfills := (owns k c.segment).1 hown
  have hunlisted : c.segment ∉ s.ring.completed := by
    rw [listed, Ring.recordAt_iff]
    rintro ⟨y, hy, hfinished⟩
    obtain ⟨z, hz, hfilling⟩ := Ring.fillerOf_eq_some_iff.1 hfills
    cases hy.symm.trans hz
    rw [hfilling] at hfinished
    cases hfinished
  have hfiller (j : Fin 64) : t.ring.fillerOf j = if c.segment = j then none else s.ring.fillerOf j := by
    rw [Ring.fillerOf_setAt hsegs, Option.bind_some, hx]
    rfl
  have hrecord (j : Fin 64) : t.ring.recordAt j = if c.segment = j then true else s.ring.recordAt j := by
    rw [Ring.recordAt_setAt hsegs, Option.any_some, hx]
    rfl
  have hsegment (j : Fin 4) : t.segmentOf j = if k = j then none else s.segmentOf j := State.segmentOf_setAt hcontexts j
  refine ⟨hcount ▸ count, fun l j => ?_, fun j => ?_, ?_, fun j hj => ?_⟩
  · rw [hsegment, hfiller]
    by_cases hl : k = l
    · subst hl
      by_cases hj : c.segment = j
      · simp [hj]
      · rw [if_pos rfl, if_neg hj, ← owns k j, hown]
        simp [hj]
    · by_cases hj : c.segment = j
      · subst hj
        rw [if_neg hl, if_pos rfl, owns, hfills]
        simp [hl]
      · rw [if_neg hl, if_neg hj]
        exact owns l j
  · rw [hcompleted, hrecord, List.mem_append, List.mem_singleton, listed]
    by_cases hj : c.segment = j
    · simp [hj]
    · simp [hj, Ne.symm hj]
  · rw [hcompleted]
    exact List.nodup_append.2 ⟨once, List.nodup_singleton _, by simpa using fun a ha => ne_of_mem_of_not_mem ha hunlisted⟩
  · obtain ⟨hj1, hj2⟩ := outside j (hcount ▸ hj)
    have hne : c.segment ≠ j := by
      rintro rfl
      rw [hfills] at hj1
      cases hj1
    rw [hfiller, hrecord, if_neg hne, if_neg hne]
    exact ⟨hj1, hj2⟩

/-- An IDLE context takes a segment that nothing fills (R108, R109). -/
theorem State.RingInv.granted (h : s.RingInv) {ctx : Fin 4} {c : Context} {g : Fin 64} {x : Segment}
    (hidle : s.contexts[ctx] = none) (hunfilled : s.ring.fillerOf g = none) (hinside : g.val < s.ring.segCount)
    (hx : x.state = .filling ctx) (hg : c.segment = g) (hcontexts : t.contexts = setAt s.contexts ctx (some c))
    (hsegs : t.ring.segs = setAt s.ring.segs g (some x))
    (hcompleted : t.ring.completed = s.ring.completed.filter fun j => j ≠ g)
    (hcount : t.ring.segCount = s.ring.segCount) : t.RingInv := by
  rw [State.ringInv_iff] at h ⊢
  obtain ⟨count, owns, listed, once, outside⟩ := h
  have hnone : s.segmentOf ctx = none := by rw [State.segmentOf, hidle]; rfl
  have hfiller (j : Fin 64) : t.ring.fillerOf j = if g = j then some ctx else s.ring.fillerOf j := by
    rw [Ring.fillerOf_setAt hsegs, Option.bind_some, hx]
    rfl
  have hrecord (j : Fin 64) : t.ring.recordAt j = if g = j then false else s.ring.recordAt j := by
    rw [Ring.recordAt_setAt hsegs, Option.any_some, hx]
    rfl
  have hsegment (j : Fin 4) : t.segmentOf j = if ctx = j then some g else s.segmentOf j := by
    rw [State.segmentOf_setAt hcontexts, Option.map_some, hg]
    rfl
  refine ⟨hcount ▸ count, fun l j => ?_, fun j => ?_, ?_, fun j hj => ?_⟩
  · rw [hsegment, hfiller]
    by_cases hl : ctx = l
    · subst hl
      by_cases hj : g = j
      · simp [hj]
      · rw [if_pos rfl, if_neg hj, ← owns ctx j, hnone]
        simp [hj]
    · by_cases hj : g = j
      · subst hj
        rw [if_neg hl, if_pos rfl, owns, hunfilled]
        simp [hl]
      · rw [if_neg hl, if_neg hj]
        exact owns l j
  · rw [hcompleted, hrecord, List.mem_filter, listed]
    by_cases hj : g = j
    · simp [hj]
    · simp [hj, Ne.symm hj]
  · rw [hcompleted]
    exact once.filter _
  · obtain ⟨hj1, hj2⟩ := outside j (hcount ▸ hj)
    have hne : g ≠ j := by
      rintro rfl
      omega
    rw [hfiller, hrecord, if_neg hne, if_neg hne]
    exact ⟨hj1, hj2⟩

end Sys2Proof.Machine
end

section
/-! Every move keeps the ring's invariant and the format's ranges. -/

namespace Sys2Proof.Machine

variable {known : Prop} {may : Fin 32 → Prop} {s t : State}

theorem Ring.fillerOf_of_state {r : Ring} {g : Fin 64} {x : Segment} (hx : r.segs[g] = some x)
    (hstate : x.state.isFilling = false) : r.fillerOf g = none := by
  rw [Ring.fillerOf, hx, Option.bind_some]
  cases hs : x.state with
  | filling k => rw [hs] at hstate; cases hstate
  | full | reading => rfl

theorem Ring.emptied_tables {r r' : Ring} (h : r.Emptied r') (g : Fin 64) :
    r'.fillerOf g = none ∧ r'.recordAt g = false := by
  rw [← Ring.free_iff, h.segs, getElem_replicate_fin]

/-- Without an ACTIVE context and without a record (R103, R122). -/
theorem State.RingInv.emptied (hidle : ∀ k : Fin 4, t.contexts[k] = none) {r : Ring} (hr : r.Emptied t.ring)
    (hcount : 2 ≤ t.ring.segCount ∧ t.ring.segCount ≤ 64) : t.RingInv := by
  rw [State.ringInv_iff]
  refine ⟨hcount, fun k g => ?_, fun g => ?_, ?_, fun g _ => Ring.emptied_tables hr g⟩
  · rw [(Ring.emptied_tables hr g).1, State.segmentOf, hidle]
    simp
  · rw [(Ring.emptied_tables hr g).2, hr.completed]
    simp
  · rw [hr.completed]
    exact List.nodup_nil

theorem Ring.mem_fromCursor {r : Ring} {g : Fin 64} (h : g ∈ r.fromCursor) :
    g.val < r.segCount := by
  obtain ⟨k, hk, rfl⟩ := List.mem_map.1 h
  have hpos : 0 < r.segCount := Nat.zero_lt_of_lt (List.mem_range.1 hk)
  exact (Nat.mod_le _ _).trans_lt (Nat.mod_lt _ hpos)

/-- What an opening is given: a segment of the format that nothing fills, off the completed list; the cursor moves on. -/
theorem State.RingInv.allocated (h : s.RingInv) {ctx : Fin 4} {sequence : BitVec 32} {prof : Profile} {g : Fin 64}
    (hgrant : s.allocate ctx sequence prof = some (g, t)) :
    s.ring.fillerOf g = none ∧ g.val < s.ring.segCount ∧ (t.ring.completed = s.ring.completed.filter fun j => j ≠ g) ∧
      t.ring.segCount = s.ring.segCount ∧ t.ring.segSize = s.ring.segSize ∧ t.ring.cursor < s.ring.segCount := by
  have hpos : 0 < s.ring.segCount := Nat.lt_of_lt_of_le (by decide : 0 < 2) h.count.1
  obtain ⟨hfree, hmem, rfl⟩ | ⟨hfull, hmem, rfl⟩ := State.allocate_cases hgrant
  · have hunlisted : g ∉ s.ring.completed := fun hmem => by
      obtain ⟨x, hx, -⟩ := (h.listed g).1 hmem
      rw [hfree] at hx
      cases hx
    rw [State.ringLowTest_frame]
    refine ⟨(Ring.free_iff.1 hfree).1, Ring.mem_fromCursor hmem, ?_, rfl, rfl, Nat.mod_lt _ hpos⟩
    refine (List.filter_eq_self.2 fun j hj => ?_).symm
    simpa using ne_of_mem_of_not_mem hj hunlisted
  · obtain ⟨x, hx, hstate⟩ := (h.listed g).1 hmem
    have hinside : g.val < s.ring.segCount := by
      by_contra hout
      rw [h.outside g (Nat.not_lt.1 hout)] at hx
      cases hx
    rw [State.grant, State.post_frame]
    exact ⟨Ring.fillerOf_of_state hx hstate, hinside, rfl, rfl, rfl, Nat.mod_lt _ hpos⟩

/-- A context's fields change, but not its segment. -/
theorem State.segmentOf_kept {k : Fin 4} {c d : Context} (hc : s.contexts[k] = some c)
    (hcontexts : t.contexts = setAt s.contexts k (some d)) (hd : d.segment = c.segment) (l : Fin 4) :
    t.segmentOf l = s.segmentOf l := by
  rw [State.segmentOf_setAt hcontexts, Option.map_some, hd]
  split
  · rw [← ‹k = l›, State.segmentOf, hc]
    rfl
  · rfl

theorem State.FormatInv.recursored (h : s.FormatInv) (hcount : t.ring.segCount = s.ring.segCount)
    (hsize : t.ring.segSize = s.ring.segSize) (hcursor : t.ring.cursor < t.ring.segCount) : t.FormatInv where
  count := hcount ▸ h.count
  size := hsize ▸ h.size
  fits := by rw [hcount, hsize]; exact h.fits
  cursor := hcursor

theorem State.RingInv.returned (h : s.RingInv) : s.readingReturn.RingInv := by
  refine h.congr (fun k => ?_) (fun g => ?_) (fun g => ?_) ?_ ?_
  case refine_1 => rw [State.segmentOf, State.readingReturn_contexts]; rfl
  case refine_2 =>
    rw [Ring.fillerOf, State.readingReturn_ring, getElem_mapTable, Ring.fillerOf, Option.bind_map]
    refine congrArg _ (funext fun x => ?_)
    cases hx : x.state <;> simp [Segment.returned, SegmentState.context, hx]
  case refine_3 =>
    rw [Ring.recordAt, State.readingReturn_ring, getElem_mapTable, Ring.recordAt, Option.any_map]
    refine congrArg (fun f => Option.any f _) (funext fun x => ?_)
    cases hx : x.state <;> simp [Segment.returned, SegmentState.isFilling, hx]
  all_goals rw [State.readingReturn_ring]

theorem State.RingInv.served (h : s.RingInv) {g : Fin 64} {x : Segment} (hx : s.ring.segs[g] = some x) (upTo : Nat) :
    (s.modifySegment g fun _ => x.served upTo).RingInv := by
  have hsegs : (s.modifySegment g fun _ => x.served upTo).ring.segs = setAt s.ring.segs g (some (x.served upTo)) := by
    rw [State.modifySegment, hx]
    rfl
  refine h.record hsegs ?_ ?_ (fun _ => rfl) rfl rfl
  · rw [Ring.fillerOf, hx, Option.bind_some, Option.bind_some, Segment.served]
    cases x.state <;> simp [SegmentState.context]
  · rw [Ring.recordAt, hx, Option.any_some, Option.any_some, Segment.served]
    cases x.state <;> simp [SegmentState.isFilling]

theorem SameButRows.completed (h : SameButRows s t) : t.ring.completed = s.ring.completed := by rw [show t = _ from h]

theorem State.writeRow_segs (s : State) (ctx : Fin 4) (c : Context) (values : List Sample) (pre gap : Bool) :
    (s.writeRow ctx c values pre gap).ring.segs = setAt s.ring.segs c.segment
      (s.ring.segs[c.segment].map fun x => { x with fill := (c.withRow pre gap).used }) := rfl

theorem State.RingInv.rowWritten (h : s.RingInv) {ctx : Fin 4} {c : Context} (hc : s.contexts[ctx] = some c)
    (values : List Sample) (pre gap : Bool) : (s.writeRow ctx c values pre gap).RingInv := by
  refine h.record (s.writeRow_segs ctx c values pre gap) ?_ ?_
    (State.segmentOf_kept hc (State.writeRow_contexts values pre gap) rfl) (SameButRows.writeRow ..).completed
    (SameButRows.writeRow ..).segCount
  · rw [Option.bind_map]
    rfl
  · rw [Option.any_map]
    rfl

theorem State.begun_ring (s : State) (ctx : Fin 4) (w : Fin 32) (p : Fin 8) (prof : Profile) (g : Fin 64)
    (trigger : Option Sweep) :
    (s.begun ctx w p prof g trigger).ring = { s.ring with
      mem := Memory.writeAll s.ring.mem (s.ring.base g + 0)
        ((Context.opened w p prof g (s.captureSeq + 1) trigger).header .inProgress s.events.timeBase) } := rfl

theorem Move.ring (h : Move known may s t) (hs : s.RingInv) (hf : s.FormatInv) : t.RingInv ∧ t.FormatInv := by
  cases h with
  | quiet h =>
    rw [show t = _ from h]
    exact ⟨hs.of_tables rfl rfl rfl rfl, hf.of_ring rfl rfl rfl⟩
  | orphaned i _ =>
    refine ⟨hs.congr (fun k => ?_) (fun _ => rfl) (fun _ => rfl) rfl rfl, hf.of_ring rfl rfl rfl⟩
    rw [State.segmentOf, State.orphan_contexts, getElem_mapTable, State.segmentOf, State.modifyWatch_contexts, Option.map_map]
    rfl
  | returned => exact ⟨hs.returned, hf.of_ring (by rw [State.readingReturn_ring]) (by rw [State.readingReturn_ring])
      (by rw [State.readingReturn_ring])⟩
  | served g x n hx _ _ => exact ⟨hs.served hx n, hf.of_ring rfl rfl rfl⟩
  | freed g x hx hstate => exact ⟨hs.freed (Ring.fillerOf_of_state hx hstate), hf.of_ring rfl rfl rfl⟩
  | emptied r hr hformat hidle => exact ⟨.emptied (hidle hs) hr (hformat hf).count, hformat hf⟩
  | discarded r hr hformat _ =>
    have hf' := hformat hf
    exact ⟨.emptied s.dropAll_idle hr hf'.count, hf'.of_ring rfl rfl rfl⟩
  | ended k reason =>
    cases hc : s.contexts[k] with
    | none =>
      rw [State.endCapture_idle hc]
      exact ⟨hs, hf⟩
    | some c =>
      have hring := State.endCapture_ring hc reason
      obtain ⟨x, hx, -⟩ := hs.owned k c hc
      refine ⟨hs.completed hc (x := { x with state := .full, endReason := reason, fill := c.used }) rfl
        (s.endCapture_contexts k reason) ?_ ?_ ?_, hf.of_ring ?_ ?_ ?_⟩
      all_goals rw [hring]
      rw [hx]
      rfl
  | @opened ctx w p prof g u trigger hidle _ hgrant _ _ =>
    obtain ⟨hunfilled, hinside, hcompleted, hcount, hsize, hcursor⟩ := hs.allocated hgrant
    have hcontexts := congrArg State.contexts (State.allocate_frame hgrant)
    have hsegs := State.allocate_segs hgrant
    have hring := State.begun_ring u ctx w p prof g trigger
    refine ⟨hs.granted (c := Context.opened w p prof g (u.captureSeq + 1) trigger) hidle hunfilled hinside rfl rfl ?_
      (x := Segment.granted ctx (s.captureSeq + 1) prof.autoRelease) ?_ ?_ ?_, hf.recursored ?_ ?_ ?_⟩
    · rw [State.begun_contexts, hcontexts]
    all_goals rw [hring]
    · exact hsegs
    · exact hcompleted
    · exact hcount
    · exact hcount
    · exact hsize
    · exact hcount ▸ hcursor
  | @row ctx c values pre gap hc _ =>
    have hsame := SameButRows.writeRow s ctx c values pre gap
    exact ⟨hs.rowWritten hc values pre gap, hf.of_ring hsame.segCount hsame.segSize hsame.cursor⟩
  | retimed trigger due hc =>
    exact ⟨hs.congr (State.segmentOf_kept hc rfl rfl) (fun _ => rfl) (fun _ => rfl) rfl rfl, hf.of_ring rfl rfl rfl⟩
  | session x h => exact ⟨hs.of_tables rfl rfl rfl rfl, hf.of_ring rfl rfl rfl⟩
  | _ => exact ⟨hs.of_tables rfl rfl rfl rfl, hf.of_ring rfl rfl rfl⟩

theorem State.released_ring (straps : Addr) (level0 level1 : Bool) (out : List OutItem) (script : List Nat) (draws : Nat)
    (queue : List Instr) :
    (State.released straps level0 level1 out script draws queue).RingInv ∧
      (State.released straps level0 level1 out script draws queue).FormatInv := by
  have hcount : 2 ≤ Ring.released.segCount ∧ Ring.released.segCount ≤ 64 := by decide
  refine ⟨.emptied (fun k => getElem_replicate_fin _ k) (r := Ring.released) ⟨rfl, rfl, rfl, rfl⟩ hcount, hcount, ?_, ?_, ?_⟩
  · exact (by decide : 64 ≤ Ring.released.segSize ∧ Ring.released.segSize ≤ 131072)
  · exact (by decide : Ring.released.segCount * Ring.released.segSize ≤ Config.memoryWords)
  · exact (by decide : Ring.released.cursor < Ring.released.segCount)

theorem Change.ring (h : Change known s t) (hs : s.RingInv ∧ s.FormatInv) : t.RingInv ∧ t.FormatInv := by
  cases h with
  | move h => exact h.ring hs.1 hs.2
  | bare h =>
    rw [show t = _ from h]
    exact ⟨hs.1.of_tables rfl rfl rfl rfl, hs.2.of_ring rfl rfl rfl⟩
  | released => exact State.released_ring ..

/-- Settles O54: every step is a sequence of changes, and each keeps who fills which segment, the completed list and the
format's ranges. -/
theorem ringStaysWhole : Obligations.RingStaysWhole := fun _ _ hs h => (step_changes h).keep Change.ring hs

end Sys2Proof.Machine
end

section
/-! A segment's fill (R104, R105, R106), and the stores' forms: the history (R27, R28), the profiles (R77, R79), the parameters
(R178) and capture memory (log 3), kept by every move. -/

namespace Sys2Proof.Machine

variable {known : Prop} {may : Fin 32 → Prop} {s t : State}

/-! ### Fills -/

/-- The fill of a segment is 12 to S and bounds the high-water. -/
def Segment.Fits (size : Nat) (x : Segment) : Prop :=
  Config.headerWords ≤ x.fill ∧ x.fill ≤ size ∧ x.highWater ≤ x.fill

/-- ACTIVE contexts own the segments they owned and have used what they had used; records keep their fill. -/
theorem State.FillInv.of_kept (h : s.FillInv)
    (hcontexts : ∀ (k : Fin 4) (c : Context), t.contexts[k] = some c →
      ∃ d, s.contexts[k] = some d ∧ d.segment = c.segment ∧ d.used = c.used)
    (hsegs : ∀ (g : Fin 64) (x : Segment), t.ring.segs[g] = some x →
      ∃ y, s.ring.segs[g] = some y ∧ y.fill = x.fill ∧ (y.highWater ≤ y.fill → x.highWater ≤ x.fill))
    (hsize : t.ring.segSize = s.ring.segSize) : t.FillInv where
  fill g x hx := by
    obtain ⟨y, hy, hfill, hhigh⟩ := hsegs g x hx
    obtain ⟨hlow, hsegSize, hwater⟩ := h.fill g y hy
    rw [hsize, ← hfill]
    exact ⟨hlow, hsegSize, (hhigh hwater).trans hfill.ge⟩
  used k c x hc hx := by
    obtain ⟨d, hd, hsegment, hused⟩ := hcontexts k c hc
    obtain ⟨y, hy, hfill, -⟩ := hsegs c.segment x hx
    rw [← hused, ← hfill]
    exact h.used k d y hd (by simpa only [hsegment] using hy)

theorem State.FillInv.of_segs (h : s.FillInv) (hcontexts : t.contexts = s.contexts)
    (hsegs : ∀ (g : Fin 64) (x : Segment), t.ring.segs[g] = some x →
      ∃ y, s.ring.segs[g] = some y ∧ y.fill = x.fill ∧ (y.highWater ≤ y.fill → x.highWater ≤ x.fill))
    (hsize : t.ring.segSize = s.ring.segSize) : t.FillInv :=
  h.of_kept (fun _ c hc => ⟨c, hcontexts ▸ hc, rfl, rfl⟩) hsegs hsize

theorem State.FillInv.of_tables (h : s.FillInv) (hcontexts : t.contexts = s.contexts) (hsegs : t.ring.segs = s.ring.segs)
    (hsize : t.ring.segSize = s.ring.segSize) : t.FillInv :=
  h.of_segs hcontexts (fun _ x hx => ⟨x, hsegs ▸ hx, rfl, id⟩) hsize

/-- No two ACTIVE contexts own one segment (R108). -/
theorem State.RingInv.segment_injective (h : s.RingInv) {k l : Fin 4} {c d : Context} (hc : s.contexts[k] = some c)
    (hd : s.contexts[l] = some d) (hsegment : c.segment = d.segment) : k = l := by
  have hk := Ring.fillerOf_eq_some_iff.2 (h.owned k c hc)
  have hl := Ring.fillerOf_eq_some_iff.2 (h.owned l d hd)
  rw [hsegment] at hk
  exact Option.some_inj.1 (hk.symm.trans hl)

/-- One context and its segment change together. -/
theorem State.FillInv.replaced (h : s.FillInv) {k : Fin 4} {c : Context} {x : Segment}
    (hapart : ∀ (l : Fin 4) (d : Context), l ≠ k → s.contexts[l] = some d → d.segment ≠ c.segment)
    (hfits : x.Fits s.ring.segSize) (hused : x.fill = c.used)
    (hcontexts : t.contexts = setAt s.contexts k (some c))
    (hsegs : t.ring.segs = setAt s.ring.segs c.segment (some x)) (hsize : t.ring.segSize = s.ring.segSize) : t.FillInv where
  fill g y hy := by
    rw [hsegs, getElem_setAt] at hy
    rw [hsize]
    split at hy
    · cases hy
      exact hfits
    · exact h.fill g y hy
  used l d y hd hy := by
    rw [hcontexts, getElem_setAt] at hd
    rw [hsegs, getElem_setAt] at hy
    split at hd
    · cases hd
      rw [if_pos rfl] at hy
      cases hy
      exact hused
    · rw [if_neg (hapart l d (Ne.symm ‹_›) hd).symm] at hy
      exact h.used l d y hd hy

theorem Move.fill (h : Move known may s t) (hs : s.FillInv) (hring : s.RingInv) (hformat : s.FormatInv)
    (hprofile : s.ProfileInv) : t.FillInv := by
  cases h with
  | quiet h =>
    rw [show t = _ from h]
    exact hs.of_tables rfl rfl rfl
  | orphaned i _ =>
    refine hs.of_kept (fun k c hc => ?_) (fun _ x hx => ⟨x, hx, rfl, id⟩) rfl
    rw [State.orphan_contexts, getElem_mapTable] at hc
    obtain ⟨d, hd, rfl⟩ := Option.map_eq_some_iff.1 hc
    exact ⟨d, hd, rfl, rfl⟩
  | returned =>
    refine hs.of_segs s.readingReturn_contexts (fun g x hx => ?_) (by rw [State.readingReturn_ring])
    rw [State.readingReturn_ring, getElem_mapTable] at hx
    obtain ⟨y, hy, rfl⟩ := Option.map_eq_some_iff.1 hx
    exact ⟨y, hy, rfl, id⟩
  | served g x n hx hfill _ =>
    refine hs.of_segs rfl (fun j y hy => ?_) rfl
    rw [State.modifySegment, getElem_setAt] at hy
    split at hy
    · subst ‹g = j›
      rw [hx] at hy
      cases hy
      exact ⟨x, hx, rfl, fun hwater => max_le hwater hfill⟩
    · exact ⟨y, hy, rfl, id⟩
  | freed g x _ _ =>
    refine hs.of_segs rfl (fun j y hy => ?_) rfl
    rw [State.freeSegment, getElem_setAt] at hy
    split at hy
    · cases hy
    · exact ⟨y, hy, rfl, id⟩
  | emptied r hr _ _ =>
    have hfree (g : Fin 64) : r.segs[g] = none := by rw [hr.segs, getElem_replicate_fin]
    exact ⟨fun g x hx => absurd ((hfree g).symm.trans hx) (by simp), fun k c x _ hx =>
      absurd ((hfree c.segment).symm.trans hx) (by simp)⟩
  | discarded r hr _ _ =>
    have hfree (g : Fin 64) : r.segs[g] = none := by rw [hr.segs, getElem_replicate_fin]
    exact ⟨fun g x hx => absurd ((hfree g).symm.trans hx) (by simp), fun k c x _ hx =>
      absurd ((hfree c.segment).symm.trans hx) (by simp)⟩
  | ended k reason =>
    cases hc : s.contexts[k] with
    | none => rwa [State.endCapture_idle hc]
    | some c =>
      have hended := State.endCapture_ring hc reason
      refine hs.of_kept (fun l d hd => ?_) (fun g x hx => ?_) (by rw [hended])
      · rw [State.endCapture_contexts, getElem_setAt] at hd
        split at hd
        · cases hd
        · exact ⟨d, hd, rfl, rfl⟩
      · rw [hended, getElem_setAt] at hx
        split at hx
        · subst ‹c.segment = g›
          obtain ⟨y, hy, rfl⟩ := Option.map_eq_some_iff.1 hx
          have hused := hs.used k c y hc hy
          exact ⟨y, hy, hused, fun hwater => hwater.trans hused.le⟩
        · exact ⟨x, hx, rfl, id⟩
  | @opened ctx w p prof g u trigger hidle _ hgrant _ _ =>
    obtain ⟨hunfilled, -, -, -, hsize, -⟩ := hring.allocated hgrant
    have hcontexts := congrArg State.contexts (State.allocate_frame hgrant)
    have hsegs := State.allocate_segs hgrant
    have hbegun := State.begun_ring u ctx w p prof g trigger
    refine hs.replaced (k := ctx) (c := Context.opened w p prof g (u.captureSeq + 1) trigger)
      (x := Segment.granted ctx (s.captureSeq + 1) prof.autoRelease) (fun l d _ hd hsame => ?_) ?_ rfl ?_ ?_ ?_
    · obtain ⟨x, hx, hfilling⟩ := hring.owned l d hd
      have hfiller := Ring.fillerOf_eq_some_iff.2 ⟨x, hx, hfilling⟩
      rw [show d.segment = g from hsame, hunfilled] at hfiller
      cases hfiller
    · exact ⟨Nat.le_refl _, (show Config.headerWords ≤ 64 by decide).trans hformat.size.1, Nat.zero_le _⟩
    · rw [State.begun_contexts, hcontexts]
    · rw [hbegun]
      exact hsegs
    · rw [hbegun]
      exact hsize
  | @row ctx c values pre gap hc hfit =>
    obtain ⟨x, hx, -⟩ := hring.owned ctx c hc
    obtain ⟨hlow, -, hwater⟩ := hs.fill c.segment x hx
    have hused := hs.used ctx c x hc hx
    have hsame := SameButRows.writeRow s ctx c values pre gap
    have hwithin := hfit hprofile hformat
    refine hs.replaced (k := ctx) (c := c.withRow pre gap) (x := { x with fill := (c.withRow pre gap).used })
      (fun l d hl hd hsegment => hl (hring.segment_injective hd hc hsegment)) ?_ rfl (State.writeRow_contexts values pre gap)
      ?_ hsame.segSize
    · simp only [Segment.Fits, Context.withRow]
      omega
    · rw [State.writeRow_segs, hx]
      rfl
  | retimed trigger due hc =>
    refine hs.of_kept (fun k d hd => ?_) (fun _ x hx => ⟨x, hx, rfl, id⟩) rfl
    rw [State.setContext, getElem_setAt] at hd
    split at hd
    · subst ‹_ = k›
      cases hd
      exact ⟨_, hc, rfl, rfl⟩
    · exact ⟨d, hd, rfl, rfl⟩
  | _ => exact hs.of_tables rfl rfl rfl

/-! ### Frames of the composite moves -/

theorem State.recordEnded_frame (s : State) (c : Context) (reason : EndReason) :
    s.recordEnded c reason = { s with
      ring := (s.recordEnded c reason).ring, counters := (s.recordEnded c reason).counters } := rfl

theorem State.endNotified_same (s : State) (c : Context) (reason : EndReason) :
    s.endNotified c reason = { s with
      ring := (s.endNotified c reason).ring, notices := (s.endNotified c reason).notices
      counters := (s.endNotified c reason).counters } := by
  have hnotified := State.endNotified_frame s c reason
  have hrecord := State.recordEnded_frame s c reason
  generalize s.endNotified c reason = u at hnotified ⊢
  generalize s.recordEnded c reason = v at hnotified hrecord
  rw [hnotified, hrecord]

theorem State.endCapture_frame (s : State) (k : Fin 4) (reason : EndReason) :
    s.endCapture k reason = { s with
      watches := (s.endCapture k reason).watches, contexts := (s.endCapture k reason).contexts
      ring := (s.endCapture k reason).ring, notices := (s.endCapture k reason).notices
      counters := (s.endCapture k reason).counters } := by
  cases hc : s.contexts[k] with
  | none => rw [State.endCapture_idle hc]
  | some c =>
    have hnotified := State.endNotified_same s c reason
    rw [State.endCapture_active hc]
    generalize s.endNotified c reason = u at hnotified ⊢
    rw [hnotified]

theorem State.dropAll_frame (s : State) :
    s.dropAll = { s with watches := s.dropAll.watches, contexts := s.dropAll.contexts } := by
  refine List.foldlRecOn (motive := fun t : State => t = { s with watches := t.watches, contexts := t.contexts }) _ _ rfl
    fun t ht k _ => ?_
  cases hc : t.contexts[k] with
  | none => rwa [State.dropCapture_idle hc]
  | some c =>
    rw [State.dropCapture_active hc, ht]

theorem State.begun_frame (s : State) (ctx : Fin 4) (w : Fin 32) (p : Fin 8) (prof : Profile) (g : Fin 64)
    (trigger : Option Sweep) :
    s.begun ctx w p prof g trigger = { s with
      captureSeq := s.captureSeq + 1
      watches := (s.begun ctx w p prof g trigger).watches, contexts := (s.begun ctx w p prof g trigger).contexts
      ring := (s.begun ctx w p prof g trigger).ring } := rfl

/-- Only a change of the receiver or of the profiles changes either. -/
theorem Move.stores (h : Move known may s t) :
    t.receiver = s.receiver ∧ t.profiles = s.profiles ∨
      (s.ReceiverInv → t.ReceiverInv) ∧ (s.ProfileInv → t.ProfileInv) := by
  cases h with
  | quiet h => exact .inl ⟨h.receiver, h.profiles⟩
  | receiver rx hr hp => exact .inr ⟨hr, hp⟩
  | profiles v hp _ => exact .inr ⟨fun h => ⟨h.rows, h.started, h.set, h.distinct, h.widths⟩, hp⟩
  | discarded r _ _ _ =>
    rw [State.dropAll_frame]
    exact .inl ⟨rfl, rfl⟩
  | ended k reason =>
    rw [State.endCapture_frame]
    exact .inl ⟨rfl, rfl⟩
  | @opened ctx w p prof g u trigger _ _ hgrant _ _ =>
    rw [State.begun_frame, State.allocate_frame hgrant]
    exact .inl ⟨rfl, rfl⟩
  | @row ctx c values pre gap _ _ =>
    have hsame := SameButRows.writeRow s ctx c values pre gap
    exact .inl ⟨hsame.receiver, hsame.profiles⟩
  | returned => exact .inl ⟨s.readingReturn_receiver, s.readingReturn_profiles⟩
  | _ => exact .inl ⟨rfl, rfl⟩

theorem State.ReceiverInv.congr (h : s.ReceiverInv) (hx : t.receiver = s.receiver) : t.ReceiverInv := by
  obtain ⟨rows, started, set, distinct, widths⟩ := h
  rw [← hx] at rows started set distinct widths
  exact ⟨rows, started, set, distinct, widths⟩

theorem Move.receiverInv (h : Move known may s t) (hs : s.ReceiverInv) : t.ReceiverInv := by
  obtain ⟨hx, -⟩ | ⟨hx, -⟩ := h.stores
  · exact hs.congr hx
  · exact hx hs

theorem Move.profileInv (h : Move known may s t) (hs : s.ProfileInv) : t.ProfileInv := by
  obtain ⟨hx, hp⟩ | ⟨-, hp⟩ := h.stores
  · exact State.ProfileInv.of_stores hs hp hx
  · exact hp hs

theorem Move.paramInv (h : Move known may s t) (hs : s.ParamInv) : t.ParamInv := by
  have hsame (hx : t.params = s.params) : t.ParamInv := fun x => hx ▸ hs x
  cases h with
  | quiet h => exact hsame (by rw [show t = _ from h])
  | params p h => exact h hs
  | discarded r _ _ _ => exact hsame (by rw [State.dropAll_frame])
  | ended k reason => exact hsame (by rw [State.endCapture_frame])
  | @opened ctx w p prof g u trigger _ _ hgrant _ _ =>
    exact hsame (by rw [State.begun_frame, State.allocate_frame hgrant])
  | @row ctx c values pre gap _ _ =>
    exact hsame (by rw [show s.writeRow ctx c values pre gap = _ from SameButRows.writeRow s ctx c values pre gap])
  | returned => exact hsame s.readingReturn_params
  | _ => exact hsame rfl

theorem State.allocate_mem {ctx : Fin 4} {sequence : BitVec 32} {prof : Profile} {g : Fin 64}
    (h : s.allocate ctx sequence prof = some (g, t)) : t.ring.mem = s.ring.mem := by
  obtain ⟨-, -, rfl⟩ | ⟨-, -, rfl⟩ := State.allocate_cases h
  · rw [State.ringLowTest_frame]
    rfl
  · rw [State.grant, State.post_frame]
    rfl

theorem Move.memoryWf (h : Move known may s t) (hs : Memory.wf s.ring.mem) : Memory.wf t.ring.mem := by
  cases h with
  | quiet h =>
    rw [show t = _ from h]
    exact hs
  | memory m h => exact h hs
  | emptied r hr _ _ => exact hr.mem ▸ hs
  | discarded r hr _ _ => exact hr.mem ▸ hs
  | ended k reason =>
    cases hc : s.contexts[k] with
    | none => rwa [State.endCapture_idle hc]
    | some c =>
      rw [State.endCapture_ring hc]
      exact Memory.writeAll_wf _ _ _ hs
  | opened trigger _ _ hgrant _ _ =>
    rw [State.begun_ring]
    exact Memory.writeAll_wf _ _ _ (State.allocate_mem hgrant ▸ hs)
  | row values pre gap _ _ => exact Memory.writeAll_wf _ _ _ (Memory.writeAll_wf _ _ _ (Memory.writeAll_wf _ _ _ hs))
  | returned =>
    rw [State.readingReturn_ring]
    exact hs
  | _ => exact hs

/-! ### Every step -/

theorem State.released_fill (straps : Addr) (level0 level1 : Bool) (out : List OutItem) (script : List Nat) (draws : Nat)
    (queue : List Instr) : (State.released straps level0 level1 out script draws queue).FillInv := by
  have hfree (g : Fin 64) : (State.released straps level0 level1 out script draws queue).ring.segs[g] = none :=
    getElem_replicate_fin _ g
  exact ⟨fun g x hx => absurd ((hfree g).symm.trans hx) (by simp), fun k c x _ hx =>
    absurd ((hfree c.segment).symm.trans hx) (by simp)⟩

theorem State.released_profile (straps : Addr) (level0 level1 : Bool) (out : List OutItem) (script : List Nat) (draws : Nat)
    (queue : List Instr) : (State.released straps level0 level1 out script draws queue).ProfileInv :=
  fun i _ hp => absurd ((getElem_replicate_fin (none : Option Profile) i).symm.trans hp) (by simp)

theorem Change.fill (h : Change known s t) (hs : s.FillInv ∧ s.RingInv ∧ s.FormatInv ∧ s.ProfileInv) :
    t.FillInv ∧ t.RingInv ∧ t.FormatInv ∧ t.ProfileInv := by
  obtain ⟨hfill, hring, hformat, hprofile⟩ := hs
  obtain ⟨hring', hformat'⟩ := h.ring ⟨hring, hformat⟩
  refine ⟨?_, hring', hformat', ?_⟩
  · cases h with
    | move h => exact h.fill hfill hring hformat hprofile
    | bare h =>
      rw [show t = _ from h]
      exact hfill.of_tables rfl rfl rfl
    | released => exact State.released_fill ..
  · cases h with
    | move h => exact h.profileInv hprofile
    | bare h => exact State.ProfileInv.of_stores hprofile (by rw [show t = _ from h]) (by rw [show t = _ from h])
    | released straps level0 level1 out script draws queue =>
      exact State.released_profile straps level0 level1 out script draws queue

/-- Settles O56: every step is a sequence of changes, and each keeps the fills along with the invariants that they rest on. -/
theorem fillStaysWithin : Obligations.FillStaysWithin := fun _ _ hs h => ((step_changes h).keep Change.fill hs).1

end Sys2Proof.Machine
end

section
/-! What the port and the pins see of a step: moves leave them alone but for the pending mark word, and one frame leaves for
each frame that is routed (R12, R15, R16). -/

namespace Sys2Proof.Machine

variable {known : Prop} {may : Fin 32 → Prop} {s t u : State}

/-! ### Moves and the port -/

/-- The pins, the queue of commands and all of the port but the pending mark word are as they were. -/
structure Still (s t : State) : Prop where
  port : t.port = { s.port with markWord := t.port.markWord }
  strap : t.strap = s.strap
  resetLow : t.resetLow = s.resetLow
  pending : t.pending = s.pending

theorem Still.refl (s : State) : Still s s := ⟨rfl, rfl, rfl, rfl⟩

theorem Still.trans (h : Still s t) (h' : Still t u) : Still s u :=
  ⟨by rw [h'.port, h.port], h'.strap.trans h.strap, h'.resetLow.trans h.resetLow, h'.pending.trans h.pending⟩

theorem Still.of_eq (hport : t.port = s.port) (hstrap : t.strap = s.strap) (hreset : t.resetLow = s.resetLow)
    (hpending : t.pending = s.pending) : Still s t :=
  ⟨by rw [hport], hstrap, hreset, hpending⟩

theorem Move.still (h : Move known may s t) : Still s t := by
  cases h with
  | quiet h =>
    rw [show t = _ from h]
    exact ⟨rfl, rfl, rfl, rfl⟩
  | discarded r _ _ _ =>
    rw [State.dropAll_frame]
    exact .of_eq rfl rfl rfl rfl
  | ended k reason =>
    rw [State.endCapture_frame]
    exact .of_eq rfl rfl rfl rfl
  | @opened ctx w p prof g u trigger _ _ hgrant _ _ =>
    rw [State.begun_frame, State.allocate_frame hgrant]
    exact .of_eq rfl rfl rfl rfl
  | @row ctx c values pre gap _ _ =>
    rw [show s.writeRow ctx c values pre gap = _ from SameButRows.writeRow s ctx c values pre gap]
    exact .of_eq rfl rfl rfl rfl
  | returned =>
    exact .of_eq s.readingReturn_port s.readingReturn_strap s.readingReturn_resetLow s.readingReturn_pending
  | _ => exact .of_eq rfl rfl rfl rfl

theorem Moves.still (h : Moves known may s t) : Still s t :=
  h.keep (P := Still s) (fun hmove hs => hs.trans hmove.still) (.refl s)

/-! ### The frame that leaves -/

/-- The words that leave in the place of a routed frame (R12, R13, R15, R16). -/
def State.sentFor (s : State) (ws : List Word) : List Word :=
  match routeOf s.strap ws with
  | .sweep => stamped s.port.markWord ws
  | .badRequest | .eventOwn | .resetOwn | .ownFrame => idleFrame false ws.length
  | .request => withCrc (s.serve (srcOf ws) (sequenceOf ws) (requestCodeOf ws) ws.length (bodyOf ws)).1
  | .offered => s.offer.1.getD ws
  | .eventBroadcast | .resetBroadcast | .other => ws

/-- One frame has left, and the counts, the link and the silence timer are as they were. -/
def Sends (s t : State) (ws : List Word) : Prop :=
  t.port = { s.port with out := s.port.out ++ [.frame ws], markWord := t.port.markWord }

theorem Sends.emit (s : State) (ws : List Word) : Sends s (s.emit (.frame ws)) ws := rfl

theorem Sends.still {ws : List Word} (h : Sends s t ws) (h' : Still t u) : Sends s u ws := by
  rw [Sends, h'.port, h]

theorem Still.sends {ws : List Word} (h : Still s t) (h' : Sends t u ws) : Sends s u ws := by
  rw [Sends, show u.port = _ from h', h.port]

theorem State.route_sends (s : State) (ws : List Word) : Sends s (s.route ws) (s.sentFor ws) := by
  have hmay (i : Fin 32) : True := trivial
  have hfalse {t : State} (h : False) : t.ReferenceInv := h.elim
  rw [State.route, State.sentFor]
  cases routeOf s.strap ws with
  | sweep =>
    have hstamped : Sends s { s.emit (.frame (stamped s.port.markWord ws)) with
      port := { (s.emit (.frame (stamped s.port.markWord ws))).port with markWord := 0 } } (stamped s.port.markWord ws) := rfl
    exact hstamped.still (State.acceptSweep_moves (known := False) _ _ _ hfalse).still
  | request =>
    have hserved := State.serve_moves (known := False) (s := s) hmay hfalse (srcOf ws) (sequenceOf ws) (requestCodeOf ws)
      ws.length (bodyOf ws)
    exact hserved.still.sends (Sends.emit _ _)
  | offered =>
    have hoffered : Moves False (fun _ => True) s s.offer.2 := (Quiet.offer s).moves
    exact hoffered.still.sends (Sends.emit _ _)
  | eventBroadcast | eventOwn => exact (Sends.emit s _).still (State.eventArrives_moves (known := False) hmay _ _).still
  | resetBroadcast | resetOwn => exact (Sends.emit s _).still (State.loopReset_moves (known := False) hmay hfalse).still
  | badRequest | ownFrame | other => exact Sends.emit s _

end Sys2Proof.Machine
end

section
/-! The port's invariant (R3, R4, R5), kept by every step, and the stores' forms together. -/

namespace Sys2Proof.Machine

variable {known : Prop} {may : Fin 32 → Prop} {s t u : State}

/-- The counts, the silence timer and the link are as they were. -/
theorem State.PortInv.congr (h : s.PortInv) (hvalid : t.port.validCount = s.port.validCount)
    (hdamaged : t.port.damagedCount = s.port.damagedCount) (hsilence : t.port.silence = s.port.silence)
    (hlink : t.port.link = s.port.link) : t.PortInv where
  valid := hvalid ▸ h.valid
  damaged := hdamaged ▸ h.damaged
  silence := by rw [hsilence, hlink]; exact h.silence

theorem State.PortInv.still (h : s.PortInv) (ht : Still s t) : t.PortInv :=
  h.congr (by rw [ht.port]) (by rw [ht.port]) (by rw [ht.port]) (by rw [ht.port])

theorem State.PortInv.sends {ws : List Word} (h : s.PortInv) (ht : Sends s t ws) : t.PortInv := by
  rw [Sends] at ht
  exact h.congr (by rw [ht]) (by rw [ht]) (by rw [ht]) (by rw [ht])

/-- A port out of DOWN, with the silence timer running. -/
theorem State.PortInv.running (hvalid : t.port.validCount ≤ 4) (hdamaged : t.port.damagedCount ≤ 8)
    (hsilence : t.port.silence ≠ none) (hlink : t.port.link ≠ .down) : t.PortInv :=
  ⟨hvalid, hdamaged, ⟨fun h => absurd h hsilence, fun h => absurd h hlink⟩⟩

theorem State.PortInv.countValid (hlink : s.port.link ≠ .down) : s.countValid.PortInv :=
  .running (Nat.min_le_right _ _) (Nat.zero_le _) (by simp [State.countValid, Port.countValid]) hlink

theorem State.departUp_still : Still s s.departUp :=
  (State.departUp_moves (known := False) (may := fun _ => True) fun _ => trivial).still

theorem State.PortInv.upToHunt (hsilence : s.port.silence ≠ none) : s.upToHunt.PortInv := by
  have hhunt : State.PortInv
      { s with port := { s.port with link := .hunt, validCount := 0, damagedCount := 0 } } :=
    .running (Nat.zero_le _) (Nat.zero_le _) hsilence (by simp)
  exact hhunt.still State.departUp_still

theorem State.PortInv.damagedArrives (h : s.PortInv) (hlink : s.port.link ≠ .down) (ws : List Word) :
    (s.damagedArrives ws).PortInv := by
  have hsilence : s.port.silence ≠ none := fun hnone => hlink (h.silence.1 hnone)
  rw [State.damagedArrives_eq]
  split
  · exact .upToHunt hsilence
  · exact .running (Nat.zero_le _) (Nat.min_le_right _ _) hsilence hlink

theorem State.enterUp_still :
    Still { s with port := { s.port with link := .up, validCount := 0, damagedCount := 0, downSeen := false } } s.enterUp := by
  rw [State.enterUp]
  dsimp only
  split
  · exact (Quiet.post _ _ _ _).moves (known := False) (may := fun _ => True) |>.still
  · exact .refl _

theorem State.PortInv.huntValid (hlink : s.port.link ≠ .down) (ws : List Word) : (s.huntValid ws).PortInv := by
  have hsilence : s.port.countValid.silence ≠ none := by simp [Port.countValid]
  rw [State.huntValid]
  dsimp only
  split
  · exact State.PortInv.still (.running (Nat.zero_le _) (Nat.zero_le _) hsilence (by simp)) State.enterUp_still
  · exact .running (Nat.min_le_right _ _) (Nat.zero_le _) hsilence hlink

theorem State.PortInv.arrive (h : s.PortInv) (ws : List Word) : (s.arrive ws).PortInv := by
  rw [State.arrive]
  split
  · exact h.sends (Sends.emit s ws)
  · split
    · exact h
    · have hlink : s.port.link ≠ .down := by simp_all
      split
      · exact .huntValid hlink ws
      · exact h.damagedArrives hlink ws
    · have hlink : s.port.link ≠ .down := by simp_all
      rw [State.upArrives]
      split
      · split
        · exact State.PortInv.sends (.countValid hlink) (State.route_sends _ ws)
        · exact State.PortInv.sends (.countValid hlink) (Sends.emit _ ws)
      · exact h.damagedArrives hlink ws

theorem State.PortInv.enterDown (h : s.PortInv) : s.enterDown.PortInv := by
  have hmark : s.markDown.PortInv := ⟨Nat.zero_le _, Nat.zero_le _, ⟨fun _ => rfl, fun _ => rfl⟩⟩
  rw [State.enterDown]
  split
  · exact h
  · exact hmark
  · exact hmark.still State.departUp_still

theorem State.PortInv.downToHunt : s.downToHunt.PortInv :=
  .running (Nat.zero_le _) (Nat.zero_le _) (by simp [State.downToHunt]) (by simp [State.downToHunt])

theorem State.PortInv.ite {p : Prop} [Decidable p] (ht : p → t.PortInv) (hu : ¬p → u.PortInv) :
    (if p then t else u).PortInv := by
  split
  · exact ht ‹p›
  · exact hu ‹¬p›

theorem exec_portInv {c : Instr} (hs : s.PortInv) (h : exec c s = .next t) : t.PortInv := by
  have hmay (i : Fin 32) : True := trivial
  have hframe {ws : List Word} (hws : frameOf c = some ws) : t.PortInv := by
    rw [exec_of_frameOf hws] at h
    cases h
    exact hs.arrive ws
  have hmoves {u : State} (hu : Moves False (fun _ => True) s u) : u.PortInv := hs.still hu.still
  cases c with
  | powerOnResetRelease straps copied => cases h; exact ⟨Nat.zero_le _, Nat.zero_le _, ⟨fun _ => rfl, fun _ => rfl⟩⟩
  | resetnFall sent => cases h; exact .ite (fun _ => hs) fun _ => hs.congr rfl rfl rfl rfl
  | sendBreak => cases h; exact .ite (fun _ => hs.congr rfl rfl rfl rfl) fun _ => hs
  | startDelimiter signal =>
    cases h; exact .ite (fun _ => .downToHunt) fun _ => hs
  | lossOfSignal => cases h; exact .ite (fun _ => hs) fun _ => hs.enterDown
  | silenceTimerExpiry => cases h; exact .ite (fun _ => hs) fun _ => hs.enterDown
  | resendTimerRunOut number => cases h; exact .ite (fun _ => hs) fun _ => hmoves (Quiet.resendRunsOut s number).moves
  | eventExpiry place => cases h; exact .ite (fun _ => hs) fun _ => hmoves (State.eventExpires_moves hmay place)
  | tinLevelChange line high => cases h; exact hs.congr rfl rfl rfl rfl
  | candidateTimerRunOut line => cases h; exact .ite (fun _ => hs) fun _ => hmoves (State.candidateRunsOut_moves hmay line)
  | pulseTimerRunOut line =>
    cases h
    refine .ite (fun _ => hs) fun _ => ?_
    cases line <;> exact hs.congr rfl rfl rfl rfl
  | leaseExpiry => cases h; exact .ite (fun _ => hs) fun _ => hmoves State.leaseExpires_moves
  | _ => exact hframe rfl

theorem State.PortInv.tick (h : s.PortInv) : s.tick.PortInv := by
  refine .ite (fun _ => h) fun _ => ⟨h.valid, h.damaged, ?_⟩
  rw [← Option.not_isSome_iff_eq_none, tickTimer_isSome, Option.not_isSome_iff_eq_none]
  exact h.silence

theorem step_portInv (hs : s.PortInv) (h : step s = .next t) : t.PortInv := by
  rw [step] at h
  split at h
  · cases h
    exact hs.tick
  · rename_i c rest _
    have htaken : State.PortInv { s with pending := rest } := hs.congr rfl rfl rfl rfl
    exact exec_portInv htaken h

/-! ### The stores together -/

theorem Params.powerOn_inRange (x : Param) : x.range.1 ≤ Params.powerOn.get x ∧ Params.powerOn.get x ≤ x.range.2 := by
  cases x <;> decide

theorem State.released_receiver (straps : Addr) (level0 level1 : Bool) (out : List OutItem) (script : List Nat)
    (draws : Nat) (queue : List Instr) : (State.released straps level0 level1 out script draws queue).ReceiverInv :=
  ⟨Nat.zero_le _, fun _ => rfl, Nat.zero_le _, List.nodup_nil, fun _ h => by cases h⟩

theorem Change.stores (h : Change known s t) (hs : s.ReceiverInv ∧ s.ProfileInv ∧ s.ParamInv ∧ Memory.wf s.ring.mem) :
    t.ReceiverInv ∧ t.ProfileInv ∧ t.ParamInv ∧ Memory.wf t.ring.mem := by
  obtain ⟨hreceiver, hprofile, hparam, hmem⟩ := hs
  cases h with
  | move h => exact ⟨h.receiverInv hreceiver, h.profileInv hprofile, h.paramInv hparam, h.memoryWf hmem⟩
  | bare h =>
    rw [show t = _ from h]
    exact ⟨hreceiver.congr rfl, hprofile, hparam, hmem⟩
  | released straps level0 level1 out script draws queue =>
    exact ⟨State.released_receiver .., State.released_profile straps level0 level1 out script draws queue,
      Params.powerOn_inRange, List.Pairwise.nil, fun _ h => by cases h⟩

/-- Settles O57: the port by the commands that touch it, the stores through the changes of a step. -/
theorem storesStayWithin : Obligations.StoresStayWithin := fun _ _ ⟨hport, hstores⟩ h =>
  ⟨step_portInv hport h, (step_changes h).keep Change.stores hstores⟩

/-- Settles O58: what the release of RESETn leaves. -/
theorem resetMeetsInvariants : Obligations.ResetMeetsInvariants := by
  obtain ⟨hsession, hreading⟩ := State.released_session 0 false false [] [] 0 []
  obtain ⟨hreference, hloaded⟩ := State.referred_of_empty (s := State.reset) rfl rfl
  obtain ⟨hring, hformat⟩ := State.released_ring 0 false false [] [] 0 []
  have hport : State.reset.PortInv := ⟨Nat.zero_le _, Nat.zero_le _, ⟨fun _ => rfl, fun _ => rfl⟩⟩
  have hnotices : State.reset.NoticeInv := ⟨by decide, by decide⟩
  exact ⟨hport, State.released_receiver .., hnotices, List.pairwise_singleton _ _, List.nodup_nil, hsession, hreading,
    State.released_profile 0 false false [] [] 0 [], hreference, hloaded, hring, hformat, Params.powerOn_inRange,
    State.released_fill .., ⟨List.Pairwise.nil, fun _ h => by cases h⟩, rfl⟩

end Sys2Proof.Machine
end

section
/-! The length of what is written into a RESPONSE: each item, and each request's answer, which fits its fixed reply (R158,
R189). -/

namespace Sys2Proof.Machine

variable {s t : State}

/-! ### Items -/

@[simp] theorem length_itemSmall (n : Nat) : (itemSmall n).length = 1 := rfl

@[simp] theorem length_itemSmallOpt (o : Option Nat) : (itemSmallOpt o).length = 1 := rfl

@[simp] theorem length_itemYesNo (b : Bool) : (itemYesNo b).length = 1 := rfl

@[simp] theorem length_itemFull (v : BitVec 16) : (itemFull v).length = 2 := rfl

@[simp] theorem length_itemFullOpt (o : Option (BitVec 16)) : (itemFullOpt o).length = 2 := by
  cases o <;> rfl

@[simp] theorem length_itemSampleOpt (o : Option Sample) : (itemSampleOpt o).length = 1 := rfl

@[simp] theorem length_item32 (v : BitVec 32) : (item32 v).length = 2 := rfl

@[simp] theorem length_item48 (v : BitVec 48) : (item48 v).length = 3 := rfl

@[simp] theorem length_itemNat32 (n : Nat) : (itemNat32 n).length = 2 := rfl

@[simp] theorem length_itemWatchSet (l : List (Fin 32)) : (itemWatchSet l).length = 2 := rfl

@[simp] theorem length_itemAddrOpt (o : Option Addr) : (itemAddrOpt o).length = 1 := rfl

theorem length_packSlots : ∀ l : List (BitVec 8), (packSlots l).length = (l.length + 1) / 2
  | [] => rfl
  | [_] => by simp [packSlots]
  | _ :: _ :: rest => by
    rw [packSlots, List.length_cons, length_packSlots rest]
    simp only [List.length_cons]
    omega

@[simp] theorem length_itemSlots (l : List (BitVec 8)) : (itemSlots l).length = 1 + (l.length + 1) / 2 := by
  rw [itemSlots, List.length_append, length_itemSmall, length_packSlots]

@[simp] theorem length_paramItem (x : Param) (v : Nat) : (x.item v).length = if x.isFull then 2 else 1 := by
  rw [Param.item]
  split <;> rfl

@[simp] theorem length_leaseItems (s : State) : s.leaseItems.length = 2 := rfl

@[simp] theorem length_sourceItems (source : Nat) (cmp : Option Nat) (slot : Option (BitVec 8)) (lo hi : Option Sample)
    (step : Option Nat) (mask : Option Word) (code : Option (Fin 16)) (line edge : Option Nat) :
    (sourceItems source cmp slot lo hi step mask code line edge).length = 11 := by
  simp [sourceItems]

@[simp] theorem Condition.length_items (c : Condition) : c.items.length = 11 := by
  cases c <;> exact length_sourceItems ..

@[simp] theorem Contents.length_items (c : Contents) : c.items.length = 23 := by
  simp [Contents.items]

@[simp] theorem Runtime.length_items (r : Runtime) : r.items.length = 10 := by
  simp [Runtime.items]

@[simp] theorem Profile.length_items (p : Profile) : p.items.length = 8 + (p.slots.length + 1) / 2 := by
  simp only [Profile.items, List.length_append, length_itemSlots, length_itemSmall, length_itemFull, length_itemYesNo]
  omega

theorem length_contextItems_le (o : Option Context) : (contextItems o).length ≤ 24 := by
  cases o <;> simp [contextItems]

@[simp] theorem EventEntry.length_items (e : EventEntry) : e.items.length = 5 := rfl

@[simp] theorem FireOutcome.length_items (x : FireOutcome) : x.items.length = 3 := by
  cases x <;> rfl

@[simp] theorem length_captureLoopWords (ws : List CapWord) : (captureLoopWords ws).length = 2 * ws.length := by
  simp [captureLoopWords, List.length_flatMap, Nat.mul_comm]

@[simp] theorem length_triggerItems (w : CapWord) : (triggerItems w).length = 2 := by
  rw [triggerItems]
  split <;> rfl

theorem Ring.length_headerSlots_le (r : Ring) (g : Fin 64) : (r.headerSlots g).length ≤ 16 := by
  rw [Ring.headerSlots, List.length_take]
  exact (Nat.min_le_right _ _).trans (by simp)

theorem Ring.length_headerItems_le (r : Ring) (g : Fin 64) : (r.headerItems g).length ≤ 28 := by
  have hslots := r.length_headerSlots_le g
  simp only [Ring.headerItems, List.length_append, length_itemSmall, length_item32, length_triggerItems, length_itemFull,
    length_item48, length_itemSlots]
  omega

/-! ### Answers -/

/-- The answer's body and the four other words of a RESPONSE, its CRC among them, fit a frame of this length. -/
def Reply.Fits (a : Reply) (room : Nat) : Prop := a.body.length + 4 ≤ room

theorem Reply.Fits.of_le {a : Reply} {n m : Nat} (h : a.Fits n) (hnm : n ≤ m) : a.Fits m := Nat.le_trans h hnm

theorem Reply.fits_ok {l : List Word} {n : Nat} (h : l.length + 4 ≤ n) : (Reply.ok l).Fits n := h

theorem Reply.fits_other {st : Status} {l : List Word} {n : Nat} (h : l.length + 4 ≤ n) : (Reply.other st l).Fits n := h

theorem Reply.fits_rangeAt {kind check n : Nat} (h : 5 ≤ n) : (Reply.rangeAt kind check).Fits n := h

theorem withWatch_fits {c : Call} {f : Fin 32 → Reply × State} {n : Nat} (hn : 4 ≤ n) (hf : ∀ i, (f i).1.Fits n) :
    (withWatch c s f).1.Fits n := by
  rw [withWatch]
  split
  · exact Reply.fits_other hn
  · exact hf _

theorem withProfile_fits {c : Call} {f : Fin 8 → Reply × State} {n : Nat} (hn : 4 ≤ n) (hf : ∀ i, (f i).1.Fits n) :
    (withProfile c s f).1.Fits n := by
  rw [withProfile]
  split
  · exact Reply.fits_other hn
  · exact hf _

theorem withSegment_fits {c : Call} {f : Fin 64 → Reply × State} {n : Nat} (hn : 4 ≤ n) (hf : ∀ g, (f g).1.Fits n) :
    (withSegment c s f).1.Fits n := by
  rw [withSegment]
  split
  · exact Reply.fits_other hn
  · exact hf _

section Answers

variable (c : Call) (s : State)

theorem doStatus_fits : (doStatus c s).1.Fits 30 := Reply.fits_ok (by simp [State.statusItems])

theorem doGetParam_fits : (doGetParam c s).1.Fits 20 := by
  rw [doGetParam]
  split
  · exact Reply.fits_other (by simp)
  · split
    · exact Reply.fits_ok (by simp [Param.all, State.paramItems, Param.isFull])
    · split
      · exact Reply.fits_other (by simp)
      · refine Reply.fits_ok ?_
        simp only [State.paramItems, List.length_append, length_itemSmall, length_paramItem]
        split <;> simp

theorem doSetParam_fits : (doSetParam c s).1.Fits 9 := by
  rw [doSetParam]
  split
  · exact Reply.fits_rangeAt (by simp)
  · refine Reply.fits_ok ?_
    simp only [List.length_append, length_itemSmall, length_paramItem]
    split <;> simp

theorem doReadCounters_fits : (doReadCounters c s).1.Fits 29 := by
  rw [doReadCounters]
  split
  · exact Reply.fits_other (by simp)
  · refine Reply.fits_ok ?_
    simp [State.counterItems, List.length_flatMap]

theorem doClear_fits : (doClear c s).1.Fits 8 := by
  rw [doClear]
  split
  · exact Reply.fits_other (by simp)
  · exact Reply.fits_ok (by simp [State.clearItems])

theorem doSetHistory_fits (h : s.ReceiverInv) : (doSetHistory c s).1.Fits 24 := by
  have hset := h.set
  rw [doSetHistory]
  split
  · refine Reply.fits_other ?_
    rw [length_itemSlots]
    omega
  · rename_i l hl
    have hlength := (readHistorySet_bounds hl).1
    split
    · refine Reply.fits_other ?_
      simp only [List.length_append, length_itemSmall, length_itemSlots]
      omega
    · refine Reply.fits_ok ?_
      simp only [List.length_append, length_itemSmall, length_itemSlots]
      omega

theorem doLoadWatch_fits : (doLoadWatch c s).1.Fits 8 := by
  rw [doLoadWatch]
  split
  · exact Reply.fits_rangeAt (by simp)
  · split
    · exact Reply.fits_ok (by simp)
    · exact Reply.fits_other (by simp)

theorem doClearWatch_fits : (doClearWatch c s).1.Fits 7 := by
  refine withWatch_fits (by simp) fun i => ?_
  split
  · exact Reply.fits_other (by simp)
  · exact Reply.fits_ok (by simp)

theorem doGetWatch_fits : (doGetWatch c s).1.Fits 44 := by
  refine withWatch_fits (by simp) fun i => ?_
  split
  · exact Reply.fits_other (by simp)
  · exact Reply.fits_ok (by simp)

theorem doArm_fits : (doArm c s).1.Fits 8 := by
  refine withWatch_fits (by simp) fun i => ?_
  split
  · exact Reply.fits_other (by simp)
  · exact Reply.fits_other (by simp)
  · exact Reply.fits_ok (by simp)
  · exact Reply.fits_other (by simp)
  · exact Reply.fits_ok (by simp)

theorem doDisarm_fits : (doDisarm c s).1.Fits 7 := by
  refine withWatch_fits (by simp) fun i => ?_
  split
  · exact Reply.fits_other (by simp)
  · exact Reply.fits_ok (by simp)

theorem doArmGroup_fits : (doArmGroup c s).1.Fits 7 := by
  rw [doArmGroup]
  split
  · exact Reply.fits_other (by simp)
  · exact Reply.fits_ok (by simp)

theorem doDisarmGroup_fits : (doDisarmGroup c s).1.Fits 7 := by
  rw [doDisarmGroup]
  split
  · exact Reply.fits_other (by simp)
  · exact Reply.fits_ok (by simp)

theorem doForce_fits : (doForce c s).1.Fits 9 := by
  refine withWatch_fits (by simp) fun i => ?_
  split
  · exact Reply.fits_ok (by simp)
  · exact Reply.fits_other (by simp)

theorem doLoadProfile_fits : (doLoadProfile c s).1.Fits 7 := by
  rw [doLoadProfile]
  split
  · exact Reply.fits_rangeAt (by simp)
  · split
    · exact Reply.fits_other (by simp)
    · exact Reply.fits_ok (by simp)

theorem doClearProfile_fits : (doClearProfile c s).1.Fits 7 := by
  refine withProfile_fits (by simp) fun i => ?_
  split
  · exact Reply.fits_other (by simp)
  · split
    · exact Reply.fits_other (by simp)
    · exact Reply.fits_ok (by simp)

theorem doGetProfile_fits (h : s.ProfileInv) : (doGetProfile c s).1.Fits 24 := by
  refine withProfile_fits (by simp) fun i => ?_
  split
  · exact Reply.fits_other (by simp)
  · rename_i p hp
    have hslots := (h i p hp).2.1
    refine Reply.fits_ok ?_
    simp only [List.length_append, length_itemSmall, Profile.length_items]
    omega

theorem doAbortCapture_fits : (doAbortCapture c s).1.Fits 16 := by
  rw [doAbortCapture]
  split
  · exact Reply.fits_other (by simp)
  · split
    · exact Reply.fits_other (by simp)
    · exact Reply.fits_ok (by simp)

theorem doGetContexts_fits : (doGetContexts c s).1.Fits 102 := by
  have hitems : ((List.finRange 4).flatMap fun k => contextItems s.contexts[k]).length ≤ 4 * 24 := by
    rw [List.length_flatMap]
    refine (List.sum_le_card_nsmul _ 24 fun n hn => ?_).trans (by simp)
    obtain ⟨k, -, rfl⟩ := List.mem_map.1 hn
    exact length_contextItems_le _
  refine Reply.fits_ok ?_
  rw [List.length_append, length_item32]
  omega

theorem doFormatRing_fits : (doFormatRing c s).1.Fits 10 := by
  rw [doFormatRing]
  split
  · exact Reply.fits_rangeAt (by simp)
  · split
    · exact Reply.fits_ok (by simp [State.formatItems])
    · split
      · exact Reply.fits_ok (by simp [State.formatItems])
      · exact Reply.fits_other (by simp)

theorem doReadSegment_fits (hroom : 14 ≤ c.room) : (doReadSegment c s).1.Fits c.room := by
  rw [doReadSegment]
  split
  · exact Reply.fits_other (by simp; omega)
  · split
    · exact Reply.fits_other (by simp; omega)
    · split
      · exact Reply.fits_other (by simp; omega)
      · rename_i g offset count _ _ x _ _
        have hserved : servedCount count c.room x.fill offset ≤ wordsThatFit c.room :=
          (Nat.min_le_right _ _).trans (Nat.min_le_left _ _)
        rw [wordsThatFit] at hserved
        simp only [Reply.Fits, State.serveRead, List.length_append, List.length_singleton, length_itemNat32,
          length_itemSmall, length_item32, length_captureLoopWords, Memory.readRange, List.length_map, List.length_range]
        omega

theorem doReleaseSegment_fits : (doReleaseSegment c s).1.Fits 10 := by
  refine withSegment_fits (by simp) fun g => ?_
  split
  · exact Reply.fits_other (by simp)
  · split
    · exact Reply.fits_other (by simp)
    · exact Reply.fits_ok (by simp)

theorem doSegmentInfo_fits : (doSegmentInfo c s).1.Fits 44 := by
  refine withSegment_fits (by simp) fun g => ?_
  split
  · exact Reply.fits_other (by simp)
  · have hheader := s.ring.length_headerItems_le g
    refine Reply.fits_ok ?_
    simp only [List.length_append, length_itemSmall, length_itemSmallOpt, length_item32, length_itemNat32,
      length_itemYesNo]
    omega

theorem doScan_fits : (doScan c s).1.Fits 22 := by
  rw [doScan]
  split
  · exact Reply.fits_other (by simp)
  · split
    · exact Reply.fits_other (by simp)
    · split
      · exact Reply.fits_other (by simp)
      · exact Reply.fits_ok (by simp [Ring.scanItems])

theorem doAckNotices_fits : (doAckNotices c s).1.Fits 8 := by
  rw [doAckNotices]
  split
  · exact Reply.fits_other (by simp)
  · exact Reply.fits_ok (by simp)

theorem doSetEventEntry_fits : (doSetEventEntry c s).1.Fits 10 := by
  rw [doSetEventEntry]
  split
  · exact Reply.fits_rangeAt (by simp)
  · exact Reply.fits_ok (by simp)

theorem doGetEventEntry_fits : (doGetEventEntry c s).1.Fits 11 := by
  rw [doGetEventEntry]
  split
  · exact Reply.fits_other (by simp)
  · exact Reply.fits_ok (by simp)

theorem doSetTime_fits : (doSetTime c s).1.Fits 10 := by
  rw [doSetTime]
  split
  · exact Reply.fits_other (by simp)
  · exact Reply.fits_ok (by simp)

theorem doClaim_fits : (doClaim c s).1.Fits 6 := by
  rw [doClaim]
  split
  · exact Reply.fits_ok (by simp)
  · split
    · exact Reply.fits_ok (by simp)
    · exact Reply.fits_other (by simp)

theorem doRenew_fits : (doRenew c s).1.Fits 6 := Reply.fits_ok (by simp)

theorem doYield_fits : (doYield c s).1.Fits 6 := Reply.fits_ok (by simp)

theorem doTakeover_fits : (doTakeover c s).1.Fits 7 := by
  rw [doTakeover]
  split
  · exact Reply.fits_ok (by simp)
  · split
    · exact Reply.fits_ok (by simp)
    · exact Reply.fits_ok (by simp)

end Answers

/-- Every answer fits the room that its fixed reply asks for (R158, R189). -/
theorem execRequest_fits {k : RequestKind} {c : Call} (hroom : k.fixedReply ≤ c.room) (hreceiver : s.ReceiverInv)
    (hprofile : s.ProfileInv) : (execRequest k c s).1.Fits c.room := by
  cases k with
  | status => exact (doStatus_fits c s).of_le hroom
  | getParam => exact (doGetParam_fits c s).of_le hroom
  | setParam => exact (doSetParam_fits c s).of_le hroom
  | readCounters => exact (doReadCounters_fits c s).of_le hroom
  | clear => exact (doClear_fits c s).of_le hroom
  | setHistory => exact (doSetHistory_fits c s hreceiver).of_le hroom
  | loadWatch => exact (doLoadWatch_fits c s).of_le hroom
  | clearWatch => exact (doClearWatch_fits c s).of_le hroom
  | getWatch => exact (doGetWatch_fits c s).of_le hroom
  | arm => exact (doArm_fits c s).of_le hroom
  | disarm => exact (doDisarm_fits c s).of_le hroom
  | armGroup => exact (doArmGroup_fits c s).of_le hroom
  | disarmGroup => exact (doDisarmGroup_fits c s).of_le hroom
  | force => exact (doForce_fits c s).of_le hroom
  | loadProfile => exact (doLoadProfile_fits c s).of_le hroom
  | clearProfile => exact (doClearProfile_fits c s).of_le hroom
  | getProfile => exact (doGetProfile_fits c s hprofile).of_le hroom
  | abortCapture => exact (doAbortCapture_fits c s).of_le hroom
  | getContexts => exact (doGetContexts_fits c s).of_le hroom
  | formatRing => exact (doFormatRing_fits c s).of_le hroom
  | readSegment => exact doReadSegment_fits c s hroom
  | releaseSegment => exact (doReleaseSegment_fits c s).of_le hroom
  | segmentInfo => exact (doSegmentInfo_fits c s).of_le hroom
  | scan => exact (doScan_fits c s).of_le hroom
  | ackNotices => exact (doAckNotices_fits c s).of_le hroom
  | setEventEntry => exact (doSetEventEntry_fits c s).of_le hroom
  | getEventEntry => exact (doGetEventEntry_fits c s).of_le hroom
  | setTime => exact (doSetTime_fits c s).of_le hroom
  | claim => exact (doClaim_fits c s).of_le hroom
  | renew => exact (doRenew_fits c s).of_le hroom
  | yield => exact (doYield_fits c s).of_le hroom
  | takeover => exact (doTakeover_fits c s).of_le hroom

theorem State.denied_fits (s : State) (k : RequestKind) (c : Call) : (s.denied k c).1.Fits 6 := by
  rw [State.denied]
  split
  · refine Reply.fits_other ?_
    split <;> simp
  · exact Reply.fits_other (by simp)

/-- The answer to a request of a frame of 8 words or more (R157, R162). -/
theorem State.dispose_fits (s : State) (code : BitVec 8) {c : Call} (hroom : 8 ≤ c.room) (hreceiver : s.ReceiverInv)
    (hprofile : s.ProfileInv) : (s.dispose code c).1.Fits c.room := by
  rw [State.dispose]
  split
  · exact (Reply.fits_other (Nat.le_refl 4)).of_le (by omega)
  · dsimp only
    split
    · exact (Reply.fits_other (Nat.le_refl 4)).of_le (by omega)
    · rename_i k _ hfixed
      split
      · exact execRequest_fits (Nat.not_lt.1 hfixed) hreceiver hprofile
      · exact (s.denied_fits k c).of_le (by omega)

end Sys2Proof.Machine
end

section
/-! Frames are conserved (R15, R16, R19): what leaves for a routed frame is one valid frame of its length. -/

namespace Sys2Proof.Machine

variable {s t : State}

/-! ### Kinds and lengths -/

theorem kindOf_append {ws : List Word} (h : 1 ≤ ws.length) (l : List Word) : kindOf (ws ++ l) = kindOf ws := by
  cases ws with
  | nil => cases h
  | cons w ws => rfl

theorem kindOf_withCrc {ws : List Word} (h : 1 ≤ ws.length) : kindOf (withCrc ws) = kindOf ws := kindOf_append h _

theorem frameValid_iff {ws : List Word} {k : FrameKind} (hkind : kindOf ws = some k) :
    frameValid ws = true ↔ lengthOk k ws = true ∧ crcMatches ws = true := by
  rw [frameValid, hkind, Bool.and_eq_true]

theorem frameValid_kind {ws : List Word} (h : frameValid ws = true) : ∃ k, kindOf ws = some k ∧ lengthOk k ws = true := by
  rw [frameValid] at h
  split at h
  · cases h
  · exact ⟨_, ‹_›, (Bool.and_eq_true_iff.1 h).1⟩

/-- A valid frame is of 3 to 264 words (R2). -/
theorem frameValid_length {ws : List Word} (h : frameValid ws = true) : 3 ≤ ws.length ∧ ws.length ≤ 264 := by
  obtain ⟨k, -, hk⟩ := frameValid_kind h
  have hmax : Config.maxFrame = 264 := rfl
  cases k <;> simp only [lengthOk, decide_eq_true_eq] at hk <;> omega

theorem kindOf_idleFrame (b : Bool) (n : Nat) : kindOf (idleFrame b n) = some .idle := by
  simp [idleFrame]

/-- The kind that a row of R12 asks for, where its frame is replaced by one that is not a plain IDLE. -/
def Route.kind : Route → Option FrameKind
  | .sweep => some .sweep
  | .request => some .request
  | .offered => some .idle
  | .badRequest | .eventBroadcast | .eventOwn | .resetBroadcast | .resetOwn | .ownFrame | .other => none

theorem routeOf_kind {own : Addr} {ws : List Word} {k : FrameKind} (h : (routeOf own ws).kind = some k) :
    kindOf ws = some k := by
  rw [routeOf] at h
  cases hk : kindOf ws with
  | none => simp [hk, Route.kind] at h
  | some j =>
    rw [hk] at h
    cases j with
    | sweep => exact h
    | idle =>
      dsimp only at h
      split at h
      · exact h
      · cases h
    | request =>
      dsimp only at h
      split at h
      · cases h
      · split at h
        · exact h
        · cases h
    | event =>
      dsimp only at h
      split at h
      · cases h
      · split at h <;> cases h
    | reset =>
      dsimp only at h
      split at h
      · split at h
        · cases h
        · split at h <;> cases h
      · cases h
    | response | notice =>
      dsimp only at h
      split at h <;> cases h
    | brk => cases h

/-! ### The SWEEP with its mark word -/

/-- A stamped SWEEP is a valid frame of its length (R13). -/
theorem frameValid_stamped {ws : List Word} (hkind : kindOf ws = some .sweep) (h : frameValid ws = true) (mark : Word) :
    frameValid (stamped mark ws) = true ∧ (stamped mark ws).length = ws.length := by
  rw [stamped]
  split
  · exact ⟨h, rfl⟩
  · obtain ⟨hlength, -⟩ := (frameValid_iff hkind).1 h
    simp only [lengthOk, decide_eq_true_eq] at hlength
    obtain ⟨hlow, hhigh, hlen⟩ := hlength
    match ws, hlen with
    | w0 :: w1 :: w2 :: w3 :: w4 :: rest, hlen =>
      have hkept (v : Word) : wordOf (withCrc (w0 :: w1 :: v :: w3 :: (w4 :: rest).dropLast)) 3 = w3 := by
        simp [withCrc, wordOf]
      have hcount : slotCountOf (withCrc (((w0 :: w1 :: w2 :: w3 :: w4 :: rest).set 2
          (markOf (w0 :: w1 :: w2 :: w3 :: w4 :: rest) ||| mark)).dropLast)) =
          slotCountOf (w0 :: w1 :: w2 :: w3 :: w4 :: rest) := by
        simp [slotCountOf, withCrc, wordOf, List.dropLast]
      have hlen' : (withCrc (((w0 :: w1 :: w2 :: w3 :: w4 :: rest).set 2
          (markOf (w0 :: w1 :: w2 :: w3 :: w4 :: rest) ||| mark)).dropLast)).length =
          (w0 :: w1 :: w2 :: w3 :: w4 :: rest).length := by
        simp
      refine ⟨(frameValid_iff (k := .sweep) ?_).2 ⟨?_, crcMatches_withCrc _⟩, hlen'⟩
      · exact hkind
      · simp only [lengthOk, decide_eq_true_eq, hcount, hlen']
        exact ⟨hlow, hhigh, hlen⟩

/-! ### The RESPONSE -/

theorem length_fillRoom {room : Nat} {content : List Word} (h : content.length + 1 ≤ room) :
    (fillRoom room content).length + 1 = room := by
  rw [fillRoom, List.length_append, length_paddingWords]
  omega

theorem kindOf_fillRoom (room : Nat) {content : List Word} (h : 1 ≤ content.length) :
    kindOf (fillRoom room content) = kindOf content :=
  kindOf_append h _

/-- The words of a RESPONSE fill the reply room (R15, R189). -/
def IsResponse (room : Nat) (ws : List Word) : Prop := ws.length + 1 = room ∧ kindOf ws = some .response

theorem isResponse_fillRoom {room : Nat} {content : List Word} (hroom : content.length + 1 ≤ room)
    (hcontent : 3 ≤ content.length ∧ kindOf content = some .response) : IsResponse room (fillRoom room content) :=
  ⟨length_fillRoom hroom, (kindOf_fillRoom room (by omega)).trans hcontent.2⟩

theorem State.length_responseWords (s : State) (o : Addr) (seq code : BitVec 8) (replayed : Bool) (a : Reply) :
    (s.responseWords o seq code replayed a).length = a.body.length + 3 := by
  simp [State.responseWords]

theorem replayedContent_kind {content : List Word} (h : 3 ≤ content.length ∧ kindOf content = some .response) :
    3 ≤ (replayedContent content).length ∧ kindOf (replayedContent content) = some .response := by
  obtain ⟨hlength, hkind⟩ := h
  match content, hlength, hkind with
  | w0 :: w1 :: w2 :: rest, hlength, hkind => exact ⟨by simp [replayedContent], hkind⟩

theorem State.replayOf_cached {o : Addr} {seq : BitVec 8} {l : List Word} (hs : s.SessionInv)
    (h : s.replayOf o seq = some l) : 3 ≤ l.length ∧ kindOf l = some .response := by
  rw [State.replayOf] at h
  split at h
  · rw [originEntry] at h
    split at h
    · cases h
    · exact hs.cached _ l (List.mem_of_find?_eq_some ‹_›) h
  · cases h

/-- The RESPONSE to a REQUEST of 8 words or more fills its place. -/
theorem State.serve_isResponse (s : State) (o : Addr) (seq code : BitVec 8) {room : Nat} (body : List Word)
    (hroom : 8 ≤ room) (hreceiver : s.ReceiverInv) (hprofile : s.ProfileInv) (hsession : s.SessionInv) :
    IsResponse room (s.serve o seq code room body).1 := by
  rw [State.serve]
  dsimp only
  split
  · rename_i cached hreplay
    have hcached := State.replayOf_cached hsession hreplay
    rw [State.replayWords]
    split
    · exact isResponse_fillRoom (by simpa [replayedContent] using ‹cached.length + 1 ≤ room›) (replayedContent_kind hcached)
    · refine isResponse_fillRoom ?_ (State.responseWords_kind _ _ _ _ _ _)
      rw [State.length_responseWords]
      exact (show 4 ≤ 8 by decide).trans hroom
  · refine isResponse_fillRoom ?_ (State.responseWords_kind _ _ _ _ _ _)
    rw [State.length_responseWords]
    exact (s.touchOrigin o).dispose_fits code (c := { origin := o, room := room, body := body }) hroom
      (hreceiver.congr rfl) hprofile

theorem IsResponse.frame {room : Nat} {ws : List Word} (h : IsResponse room ws) (hlow : 8 ≤ room) (hhigh : room ≤ 264) :
    frameValid (withCrc ws) = true ∧ (withCrc ws).length = room := by
  obtain ⟨hlength, hkind⟩ := h
  have hlen : (withCrc ws).length = room := by rw [length_withCrc, hlength]
  refine ⟨(frameValid_iff (k := .response) ?_).2 ⟨?_, crcMatches_withCrc ws⟩, hlen⟩
  · rw [kindOf_withCrc (by omega), hkind]
  · simp only [lengthOk, decide_eq_true_eq, hlen]
    exact ⟨hlow, hhigh⟩

/-! ### The offer of an IDLE -/

theorem kindOf_noticeFrame (s : State) (n : Notice) (number : BitVec 8) : kindOf (s.noticeFrame n number) = some .notice := by
  simp [State.noticeFrame]

theorem State.offer_sends (s : State) : s.offer.1 = none ∨ ∃ n number, s.offer.1 = some (s.noticeFrame n number) := by
  rw [State.offer]
  split
  · split
    · exact .inl rfl
    · exact .inr ⟨_, _, rfl⟩
  · split
    · split
      · exact .inl rfl
      · split
        · exact .inl rfl
        · exact .inr ⟨_, _, rfl⟩
    · exact .inl rfl

/-! ### Conservation -/

/-- What leaves for a valid frame is valid and of its length, but for a NOTICE in the place of an IDLE (R15, R16). -/
theorem State.sentFor_valid {ws : List Word} (h : frameValid ws = true) (hreceiver : s.ReceiverInv)
    (hprofile : s.ProfileInv) (hsession : s.SessionInv) :
    frameValid (s.sentFor ws) = true ∧
      ((s.sentFor ws).length = ws.length ∨ (kindOf ws = some .idle ∧ kindOf (s.sentFor ws) = some .notice)) := by
  obtain ⟨hlow, hhigh⟩ := frameValid_length h
  have hidle : frameValid (idleFrame false ws.length) = true ∧ (idleFrame false ws.length).length = ws.length :=
    ⟨frameValid_idleFrame false _ hlow hhigh, length_idleFrame false _ hlow⟩
  rw [State.sentFor]
  cases hroute : routeOf s.strap ws with
  | sweep =>
    have hkind : kindOf ws = some .sweep := routeOf_kind (by rw [hroute]; rfl)
    obtain ⟨hvalid, hlength⟩ := frameValid_stamped hkind h s.port.markWord
    exact ⟨hvalid, .inl hlength⟩
  | request =>
    have hkind : kindOf ws = some .request := routeOf_kind (by rw [hroute]; rfl)
    have height := ((frameValid_iff hkind).1 h).1
    simp only [lengthOk, decide_eq_true_eq] at height
    obtain ⟨hvalid, hlength⟩ := (s.serve_isResponse (srcOf ws) (sequenceOf ws) (requestCodeOf ws) (bodyOf ws) height.1
      hreceiver hprofile hsession).frame height.1 hhigh
    exact ⟨hvalid, .inl hlength⟩
  | offered =>
    have hkind : kindOf ws = some .idle := routeOf_kind (by rw [hroute]; rfl)
    obtain hnone | ⟨n, number, hsome⟩ := s.offer_sends
    · rw [hnone]
      exact ⟨h, .inl rfl⟩
    · rw [hsome]
      exact ⟨(noticeFrame_valid s n number).1, .inr ⟨hkind, kindOf_noticeFrame s n number⟩⟩
  | badRequest | eventOwn | resetOwn | ownFrame => exact ⟨hidle.1, .inl hidle.2⟩
  | eventBroadcast | resetBroadcast | other => exact ⟨h, .inl rfl⟩

/-- One frame has left, after those before it. -/
def Emits (s t : State) (ws : List Word) : Prop := t.port.out = s.port.out ++ [.frame ws]

theorem Emits.still {ws : List Word} {u : State} (h : Emits s t ws) (h' : Still t u) : Emits s u ws := by
  rw [Emits, h'.port]
  exact h

theorem Sends.emits {ws : List Word} (h : Sends s t ws) : Emits s t ws := congrArg Port.out h

/-- The damaged IDLE that replaces a damaged frame (R6). -/
theorem State.damagedArrives_emits (s : State) (ws : List Word) :
    Emits s (s.damagedArrives ws) (idleFrame true (damagedLength ws.length)) := by
  rw [State.damagedArrives_eq]
  split
  · have hhunt : Emits s { s.damagedCounted ws with
        port := { (s.damagedCounted ws).port with link := .hunt, validCount := 0, damagedCount := 0 } }
        (idleFrame true (damagedLength ws.length)) := rfl
    exact hhunt.still State.departUp_still
  · rfl

theorem State.huntValid_emits (s : State) (ws : List Word) : Emits s (s.huntValid ws) ws := by
  rw [State.huntValid]
  dsimp only
  split
  · refine Emits.still ?_ State.enterUp_still
    rfl
  · rfl

theorem State.arrive_emits {ws : List Word} (hreset : s.resetLow = false) (hlink : s.port.link ≠ .down) :
    Emits s (s.arrive ws) (if frameValid ws then
      (if s.port.link = .up ∧ s.addressed then s.countValid.sentFor ws else ws)
      else idleFrame true (damagedLength ws.length)) := by
  cases hvalid : frameValid ws with
  | false =>
    rw [State.arrive_damaged s ws ⟨hreset, hlink⟩ hvalid]
    exact s.damagedArrives_emits ws
  | true =>
    cases hstate : s.port.link with
    | down => exact absurd hstate hlink
    | hunt =>
      rw [State.arrive_hunt s ws hreset hstate hvalid]
      simpa using s.huntValid_emits ws
    | up =>
      cases haddressed : s.addressed with
      | false =>
        rw [State.arrive_unaddressed s ws hreset hstate haddressed hvalid]
        have hheard : Emits s (s.heard ws) ws := rfl
        simpa using hheard
      | true =>
        rw [State.arrive_valid s ws ⟨hreset, hstate, haddressed⟩ hvalid]
        have hrouted : Emits s (s.countValid.route ws) (s.countValid.sentFor ws) := (State.route_sends s.countValid ws).emits
        simpa using hrouted

theorem State.enterDown_out (s : State) : s.enterDown.port.out = s.port.out := by
  rw [State.enterDown]
  split
  · rfl
  · rfl
  · rw [State.departUp_still.port]
    rfl

/-- No command but a frame, a SEND_BREAK, a release or a fall of RESETn puts anything on the output. -/
theorem exec_out {c : Instr} (h : exec c s = .next t) (hframe : frameOf c = none) (hbreak : c ≠ .sendBreak)
    (hrelease : ∀ straps copied, c ≠ .powerOnResetRelease straps copied) (hfall : ∀ sent, c ≠ .resetnFall sent) :
    t.port.out = s.port.out := by
  have hmay (i : Fin 32) : True := trivial
  have hmoves {u : State} (hu : Moves False (fun _ => True) s u) : u.port.out = s.port.out := by rw [hu.still.port]
  have hif {p : Prop} [Decidable p] {u v : State} (hu : u.port.out = s.port.out) (hv : v.port.out = s.port.out) :
      (if p then u else v).port.out = s.port.out := by
    split
    · exact hu
    · exact hv
  cases c with
  | powerOnResetRelease straps copied => exact absurd rfl (hrelease straps copied)
  | resetnFall sent => exact absurd rfl (hfall sent)
  | sendBreak => exact absurd rfl hbreak
  | startDelimiter signal => cases h; exact hif rfl rfl
  | lossOfSignal => cases h; exact hif rfl s.enterDown_out
  | silenceTimerExpiry => cases h; exact hif rfl s.enterDown_out
  | resendTimerRunOut number => cases h; exact hif rfl (hmoves (Quiet.resendRunsOut s number).moves)
  | eventExpiry place => cases h; exact hif rfl (hmoves (State.eventExpires_moves hmay place))
  | tinLevelChange line high => cases h; rfl
  | candidateTimerRunOut line => cases h; exact hif rfl (hmoves (State.candidateRunsOut_moves hmay line))
  | pulseTimerRunOut line =>
    cases h
    refine hif rfl ?_
    cases line <;> rfl
  | leaseExpiry => cases h; exact hif rfl (hmoves State.leaseExpires_moves)
  | _ => cases hframe

/-- Settles O59: what leaves is the frame that `arrive_emits` names, and no other command but SEND_BREAK emits. -/
theorem framesAreConserved : Obligations.FramesAreConserved := by
  intro s t c hreset h
  refine ⟨fun ws hws hlink hreceiver hprofile hsession => ?_, exec_out h, ?_⟩
  · rw [exec_of_frameOf hws] at h
    cases h
    have hemits := State.arrive_emits (ws := ws) hreset hlink
    refine ⟨_, hemits, ?_⟩
    cases hvalid : frameValid ws with
    | false =>
      obtain ⟨hlow, hhigh⟩ := damagedLength_bounds ws.length
      exact ⟨frameValid_idleFrame true _ hlow hhigh, fun hv => by (cases hv), fun _ =>
        ⟨length_idleFrame true _ hlow, kindOf_idleFrame true _⟩⟩
    | true =>
      have hsent := State.sentFor_valid (s := s.countValid) hvalid (hreceiver.congr rfl) hprofile (hsession.congr rfl)
      simp only [if_true]
      split
      · exact ⟨hsent.1, fun _ => hsent.2, fun hv => by cases hv⟩
      · exact ⟨hvalid, fun _ => .inl rfl, fun hv => by cases hv⟩
  · rintro rfl hlink
    cases h
    rw [if_neg (by simp [hlink])]

end Sys2Proof.Machine
end

section
/-! The step itself, the release of RESETn, and the end step of a watch. -/

namespace Sys2Proof.Machine

variable {s t : State}

/-- Settles O1. -/
theorem stepTakesFront : Obligations.StepTakesFront := by
  intro s c rest h
  rw [step, h]

/-- One tick of a running timer, but for its last one (log 5). -/
theorem tickTimer_some (n : Nat) : tickTimer (some n) = some (if n ≤ 1 then n else n - 1) :=
  match n with
  | 0 | 1 => rfl
  | n + 2 => by simp [tickTimer]

/-- Settles O2, timer by timer. -/
theorem idleStepIsATick : Obligations.IdleStepIsATick := by
  intro s hidle less fall
  have hfall (t : Timer) : tickTimer t = fall t := by
    cases t with
    | none => rfl
    | some n => exact tickTimer_some n
  have hstep : step s = .next s.tick := by rw [step, hidle]
  have hnotice : Notice.tick = fun n => { n with sent := n.sent.map fun x => { x with timer := fall x.timer } } := by
    funext n
    simp only [Notice.tick, hfall]
  have hwaiting : WaitingEvent.tick = fun w => { w with ticks := less w.ticks } := rfl
  refine ⟨fun hreset => ?_, fun hreset => ?_⟩
  · rw [hstep, State.tick, if_pos hreset]
  · rw [hstep, State.tick, if_neg (by simp [hreset]), hnotice, hwaiting]
    simp only [hfall]

theorem Watch.rearmed_spent {w : Watch} (h : w.runtime.firesLeft = some 0) : w.rearmed = { w with state := .spent } :=
  if_pos h

theorem Watch.rearmed_armed {w : Watch} (h : w.runtime.firesLeft ≠ some 0) :
    w.rearmed = { w with state := .armed, runtime := w.runtime.restarted } :=
  if_neg h

theorem Watch.endStep_holdoff {w : Watch} (h : 0 < w.contents.holdoff) :
    w.endStep = { w with state := .holdoff, runtime := { w.runtime with holdoffLeft := w.contents.holdoff } } :=
  if_pos h

theorem Watch.endStep_rearmed {w : Watch} (h : w.contents.holdoff = 0) : w.endStep = w.rearmed :=
  if_neg (by omega)

theorem Watch.countHoldoff_running {w : Watch} {d : Nat} (h : d + 1 < w.runtime.holdoffLeft) :
    w.countHoldoff d = { w with runtime := { w.runtime with holdoffLeft := w.runtime.holdoffLeft - (d + 1) } } :=
  if_neg (by omega)

theorem Watch.countHoldoff_over {w : Watch} {d : Nat} (h : w.runtime.holdoffLeft ≤ d + 1) :
    w.countHoldoff d = Watch.rearmed { w with runtime := { w.runtime with holdoffLeft := 0 } } := by
  have hzero : w.runtime.holdoffLeft - (d + 1) = 0 := by omega
  rw [Watch.countHoldoff, hzero, if_pos rfl]

/-- Settles O24. -/
theorem endStepAndHoldoff : Obligations.EndStepAndHoldoff := by
  intro w d armed
  refine ⟨Watch.endStep_holdoff, fun h hleft => ?_, fun h hleft => ?_, Watch.countHoldoff_running, fun h hleft => ?_,
    fun h hleft => ?_⟩
  · rw [Watch.endStep_rearmed h, Watch.rearmed_armed hleft]
    rfl
  · rw [Watch.endStep_rearmed h, Watch.rearmed_spent hleft]
  · exact (Watch.countHoldoff_over h).trans (Watch.rearmed_armed hleft)
  · exact (Watch.countHoldoff_over h).trans (Watch.rearmed_spent hleft)

/-- Settles O13: the state that the release leaves, block by block. -/
theorem releaseTakesPowerOnValues : Obligations.ReleaseTakesPowerOnValues := by
  intro s straps copied
  refine ⟨_, rfl, rfl, rfl, ?_, rfl, fun i => getElem_replicate_fin _ i, fun i => getElem_replicate_fin _ i,
    fun k => getElem_replicate_fin _ k, rfl, rfl, rfl, fun g => getElem_replicate_fin _ g, rfl, rfl, rfl, rfl, rfl, rfl,
    fun k => getElem_replicate_fin _ k, rfl, rfl, rfl, rfl, rfl, fun n => getElem_replicate_fin _ n, rfl, rfl, rfl⟩
  rw [List.append_assoc]
  rfl

/-! ### While RESETn is low -/

theorem exec_resetnFall (hreset : s.resetLow = false) (x : Transmission) :
    exec (.resetnFall x) s = .next { s with
      resetLow := true
      port := { s.port with out := fallOut s.port.out x }
      lines := { s.lines with tout0 := none, tout1 := none } } := by
  rw [exec, execResetnFall, if_neg (by simp [hreset])]

theorem fallOut_waiting (early : List OutItem) (late : List (List Word)) :
    fallOut (early ++ late.map .frame) { waiting := late.length, sent := none } = early ++ [.copyStarts] := by
  rw [fallOut, dropWaiting_frames]

theorem fallOut_cut (early : List OutItem) (late : List (List Word)) (ws : List Word) (k : Nat) :
    fallOut (early ++ .frame ws :: late.map .frame) { waiting := late.length, sent := some k } =
      early ++ [if k < ws.length then .cutShort (ws.take k) else .frame ws] ++ [.copyStarts] := by
  have hdrop : dropWaiting (early ++ .frame ws :: late.map .frame) late.length = early ++ [.frame ws] := by
    rw [show early ++ .frame ws :: late.map .frame = (early ++ [.frame ws]) ++ late.map .frame by simp, dropWaiting_frames]
  rw [fallOut]
  dsimp only
  rw [hdrop, cutLast, List.getLast?_concat]
  dsimp only
  rw [List.dropLast_concat]
  split <;> rfl

/-- Settles O14. -/
theorem resetnLowCopies : Obligations.ResetnLowCopies := by
  refine fun s => ⟨fun hhigh => ?_, fun hlow => ?_⟩
  · refine ⟨fun x => ⟨_, exec_resetnFall hhigh x⟩, fun early late => ⟨fun hout => ?_, fun ws k hout => ?_⟩⟩
    · rw [exec_resetnFall hhigh, hout, fallOut_waiting]
    · rw [exec_resetnFall hhigh, hout, fallOut_cut]
  · refine ⟨fun c ws hws => ?_, fun high => ?_, fun c hc => ?_, fun number place x => ?_, fun hidle => ?_⟩
    · rw [exec_of_frameOf hws, State.arrive_reset s ws hlow]
      rfl
    · simp [exec, execTinLevelChange, State.levelChanges, hlow, Lines.detector, Lines.setDetector]
    · simp only [List.mem_cons, List.not_mem_nil, or_false] at hc
      obtain rfl | rfl | rfl | rfl | rfl | rfl | rfl | rfl | rfl | rfl := hc <;>
        simp [exec, execSendBreak, execStartDelimiter, execLossOfSignal, execSilenceTimerExpiry, execLeaseExpiry,
          execCandidateTimerRunOut, execPulseTimerRunOut, hlow]
    · simp [exec, execResendTimerRunOut, execEventExpiry, execResetnFall, hlow]
    · rw [step, hidle]
      exact congrArg _ (if_pos hlow)

end Sys2Proof.Machine
end

section
/-! The loop port: the way down, damaged frames, valid frames that are forwarded or consumed, and the loop reset. -/

namespace Sys2Proof.Machine

variable {s t : State}

/-! ### The departure from UP -/

/-- The state that a departure from UP leaves at an addressed node, before a capture in flight ends (R8, R31, R74). -/
def State.departed (s : State) : State :=
  ({ s with port := { s.port with markWord := 0 } }.breakReceiver).breakWatches

theorem State.departUp_unaddressed (h : s.addressed = false) :
    s.departUp = { s with port := { s.port with markWord := 0 } } := by
  rw [State.departUp, if_neg (by simp [h])]

theorem State.departUp_addressed (h : s.addressed = true) : s.departUp = s.departed.endAll .link := if_pos h

theorem State.departUp_idle (h : s.addressed = true) (hidle : ∀ k : Fin 4, s.contexts[k] = none) :
    s.departUp = s.departed := by
  rw [State.departUp_addressed h]
  exact State.endAll_none _ _ hidle

theorem State.departUp_one (h : s.addressed = true) {k : Fin 4} {x : Context} (hk : s.contexts[k] = some x)
    (hothers : ∀ l : Fin 4, l ≠ k → s.contexts[l] = none) : s.departUp = s.departed.endCapture k .link := by
  rw [State.departUp_addressed h]
  exact State.endAll_one _ _ k x hk hothers

/-- Settles O16. -/
theorem departureBreaksSequence : Obligations.DepartureBreaksSequence := by
  intro s c hreset hlink hc down broken
  have hexec : exec c s = .next s.markDown.departUp := by
    have hdown : s.enterDown = s.markDown.departUp := by rw [State.enterDown, hlink]
    obtain rfl | ⟨rfl, hrunning⟩ := hc
    · rw [exec, execLossOfSignal, if_neg (by simp [hreset]), hdown]
    · rw [exec, execSilenceTimerExpiry, if_neg (by simp [hreset, Option.isSome_iff_ne_none.1 hrunning]), hdown]
  have haddressed : s.markDown.addressed = s.addressed := rfl
  rw [hexec]
  refine ⟨fun hun => ?_, fun had => ⟨fun hidle => ?_, fun k x hk hothers => ?_⟩⟩
  · rw [State.departUp_unaddressed (haddressed.trans hun)]
    rfl
  · rw [State.departUp_idle (haddressed.trans had) hidle]
    rfl
  · rw [State.departUp_one (haddressed.trans had) hk hothers]
    rfl

/-- Settles O15. -/
theorem linkStartsAndFails : Obligations.LinkStartsAndFails := by
  intro s hreset
  refine ⟨fun hlink => ⟨?_, ?_, ?_, ?_⟩, fun hlink c hc hrunning => ?_⟩
  · rw [exec, execSendBreak, if_pos (by simp [hreset, hlink])]
    rfl
  · rw [exec, execStartDelimiter, if_pos (by simp [hreset, hlink])]
    rfl
  · rw [exec, execStartDelimiter, if_neg (by simp)]
  · rw [exec, execLossOfSignal, if_neg (by simp [hreset]), State.enterDown, hlink]
  · have hdown : s.enterDown = s.markDown := by rw [State.enterDown, hlink]
    simp only [List.mem_cons, List.not_mem_nil, or_false] at hc
    obtain rfl | rfl := hc
    · rw [exec, execLossOfSignal, if_neg (by simp [hreset]), hdown]
      rfl
    · rw [exec, execSilenceTimerExpiry, if_neg (by simp [hreset, Option.isSome_iff_ne_none.1 (hrunning rfl)]), hdown]
      rfl

/-! ### Frames -/

/-- Settles O17. -/
theorem damagedFrameReplaced : Obligations.DamagedFrameReplaced := by
  intro s ws hreceives hdamaged idle counters
  have hexec : exec (.damagedFrame ws) s = .next (s.damagedArrives ws) :=
    congrArg _ (State.arrive_damaged s ws hreceives hdamaged)
  rw [hexec, State.damagedArrives_eq]
  refine ⟨fun hcount => ?_, fun hlink hcount => ?_⟩
  · rw [if_neg]
    · rfl
    · rintro ⟨hup, height⟩
      obtain hhunt | hless := hcount
      · rw [hup] at hhunt
        cases hhunt
      · omega
  · intro hunt broken
    rw [if_pos ⟨hlink, by rw [hcount]; rfl⟩, State.upToHunt]
    refine ⟨fun hun => ?_, fun had => ⟨fun hidle => ?_, fun k x hk hothers => ?_⟩⟩
    · exact congrArg Host.Outcome.next (State.departUp_unaddressed hun)
    · exact congrArg Host.Outcome.next (State.departUp_idle had hidle)
    · refine congrArg Host.Outcome.next (State.departUp_one ?_ (x := x) ?_ ?_)
      · exact had
      · exact hk
      · exact hothers

theorem length_of_frameValid_withCrc {ws : List Word} (h : frameValid (withCrc ws) = true) : 2 ≤ ws.length := by
  have hlength := (frameValid_length h).1
  rw [length_withCrc] at hlength
  omega

/-- The fields that the routing of a made frame reads. -/
theorem routed_fields {ws : List Word} (h : frameValid (withCrc ws) = true) :
    kindOf (withCrc ws) = kindOf ws ∧ srcOf (withCrc ws) = srcOf ws ∧ destOf (withCrc ws) = destOf ws := by
  have hlength := length_of_frameValid_withCrc h
  have hword := wordOf_withCrc ws 0 (by omega)
  exact ⟨kindOf_withCrc (by omega), congrArg (fun w : Word => w.extractLsb' 0 6) hword,
    congrArg (fun w : Word => w.extractLsb' 6 6) hword⟩

/-- Row 10 of R12. -/
theorem routeOf_other {own : Addr} {ws : List Word} (h : frameValid (withCrc ws) = true)
    (hrow : (kindOf ws = some .request ∧ srcOf ws ≠ 63 ∧ destOf ws ≠ own) ∨
      (kindOf ws = some .event ∧ destOf ws ≠ 63 ∧ destOf ws ≠ own) ∨
      (kindOf ws = some .reset ∧ (srcOf ws ≠ 0 ∨ (destOf ws ≠ 63 ∧ destOf ws ≠ own))) ∨
      ((kindOf ws = some .response ∨ kindOf ws = some .notice) ∧ srcOf ws ≠ own) ∨
      (kindOf ws = some .idle ∧ ws.length + 1 < 16) ∨ kindOf ws = some .brk) :
    routeOf own (withCrc ws) = .other := by
  obtain ⟨hkind, hsrc, hdest⟩ := routed_fields h
  rw [routeOf, hkind, hsrc, hdest, length_withCrc]
  obtain ⟨hk, hs, hd⟩ | ⟨hk, hb, hd⟩ | ⟨hk, hs⟩ | ⟨hk, hs⟩ | ⟨hk, hl⟩ | hk := hrow
  · rw [hk]
    exact (if_neg hs).trans (if_neg hd)
  · rw [hk]
    exact (if_neg hb).trans (if_neg hd)
  · rw [hk]
    obtain hs | ⟨hb, hd⟩ := hs
    · exact if_neg hs
    · dsimp only
      split
      · exact if_neg hb
      · rfl
  · obtain hk | hk := hk <;> rw [hk] <;> exact if_neg hs
  · rw [hk]
    exact if_neg (Nat.not_le.2 hl)
  · rw [hk]

/-- The fourth valid frame in a row brings UP (R4, R7). -/
theorem State.huntValid_fourth (h : s.port.validCount = 3) (ws : List Word) : s.huntValid ws = (s.heard ws).enterUp := by
  rw [State.huntValid]
  exact if_pos (by rw [State.emit_port, Port.countValid, h]; rfl)

theorem State.huntValid_early (h : s.port.validCount < 3) (ws : List Word) : s.huntValid ws = s.heard ws := by
  rw [State.huntValid]
  refine if_neg ?_
  simp only [State.emit_port, Port.countValid]
  omega

/-- Settles O18. -/
theorem validFrameForwarded : Obligations.ValidFrameForwarded := by
  refine ⟨fun s ws hreset hvalid => ⟨fun hlink hcount => ?_, fun hlink hun => ?_, fun hlink had hrow => ?_⟩,
    ?_⟩
  · rw [exec, execForwardFrame, State.arrive_hunt s _ hreset hlink hvalid, State.huntValid_early hcount]
  · rw [exec, execForwardFrame, State.arrive_unaddressed s _ hreset hlink hun hvalid]
  · rw [exec, execForwardFrame, State.arrive_valid s _ ⟨hreset, hlink, had⟩ hvalid, State.route, State.countValid_strap,
      routeOf_other hvalid hrow]
    rfl
  · intro s ws hreset hlink hcount hvalid t
    have hexec : exec (.forwardFrame ws) s = .next (s.heard (withCrc ws)).enterUp := by
      rw [exec, execForwardFrame, State.arrive_hunt s _ hreset hlink hvalid, State.huntValid_fourth hcount]
    have haddressed : (s.heard (withCrc ws)).addressed = s.addressed := rfl
    have hseen : (s.heard (withCrc ws)).port.downSeen = s.port.downSeen := rfl
    rw [hexec, State.enterUp, hseen, haddressed]
    refine ⟨fun hclear => ?_, fun hset had => ?_⟩
    · rw [if_neg (by obtain h | h := hclear <;> simp [h])]
      rfl
    · rw [if_pos (by simp [hset, had])]
      rfl

/-- Settles O19. -/
theorem ownFrameConsumed : Obligations.OwnFrameConsumed := by
  intro s ws hhears hvalid hrow
  obtain ⟨hkind, hsrc, hdest⟩ := routed_fields hvalid
  have hroute : routeOf s.strap (withCrc ws) = .ownFrame ∨ routeOf s.strap (withCrc ws) = .badRequest := by
    rw [routeOf, hkind, hsrc]
    obtain ⟨hk, hs⟩ | ⟨hk, hs⟩ := hrow
    · obtain hk | hk := hk <;> rw [hk] <;> exact .inl (if_pos hs)
    · rw [hk]
      exact .inr (if_pos hs)
  have hrouted : s.countValid.route (withCrc ws) = s.countValid.consume (withCrc ws) := by
    rw [State.route, State.countValid_strap]
    obtain h | h := hroute <;> rw [h]
  have hlength : (withCrc ws).length - 3 = ws.length - 2 := by rw [length_withCrc]; omega
  rw [exec, execConsumeOwnFrame, State.arrive_valid s _ hhears hvalid, hrouted, State.consume, idleFrame, hlength]
  rfl

/-! ### The loop reset -/

theorem State.endNotified_reset (s : State) (c : Context) : s.endNotified c .reset = s.recordEnded c .reset :=
  if_neg (by simp)

theorem State.endCapture_reset_notices (s : State) (k : Fin 4) : (s.endCapture k .reset).notices = s.notices := by
  cases hc : s.contexts[k] with
  | none => rw [State.endCapture_idle hc]
  | some c =>
    rw [State.endCapture_active hc, State.endNotified_reset]
    rfl

/-- The blocks after the end of the captures in flight (R51, R121, R138, R155, R174). -/
def State.resetBlocks (s : State) : State :=
  let c := s.resetWatches.readingReturn.resetNotices
  { c with
    events := { c.events with waiting := [] }
    session := { origins := [], holder := none, leaseTimer := none } }

theorem State.resetBlocks_eq (s : State) :
    s.resetBlocks = { s with
      watches := mapTable (fun _ o => o.map Watch.idleFresh) s.watches
      ring := { s.ring with segs := mapTable (fun _ o => o.map Segment.returned) s.ring.segs }
      notices := { s.notices with queue := [], nextNumber := 0, overflow := false }
      events := { s.events with waiting := [] }
      session := { origins := [], holder := none, leaseTimer := none } } := by
  rw [State.resetBlocks, State.resetNotices, State.readingReturn, State.resetWatches]

theorem State.loopReset_eq (s : State) :
    s.loopReset = (({ s with port := { s.port with markWord := 0 } }.breakReceiver).endAll .reset).resetBlocks := rfl

/-- Settles O35. -/
theorem loopResetClears : Obligations.LoopResetClears := by
  intro s u h second padding hhears hsrc hdest hpadding t quiet hu
  have harrives : s.arrive (withCrc (plainWords .reset h second padding)) = t.loopReset := by
    by_cases hb : h.dest = 63
    · rw [State.reset_broadcast s h second padding hhears hsrc hb hpadding]
      simp only [t, if_pos hb]
      rw [plainWords, hsrc]
    · obtain hd | hd := hdest
      · exact absurd hd hb
      · rw [State.reset_own s h second padding hhears hsrc hd hpadding]
        simp only [t, if_neg hb]
        rfl
  have hended : ({ t with port := { t.port with markWord := 0 } }.breakReceiver).endAll .reset = u ∧
      u.notices = s.notices ∧ u.events = s.events := by
    obtain ⟨hidle, rfl⟩ | ⟨k, x, hk, hothers, rfl⟩ := hu
    · exact ⟨State.endAll_none _ _ hidle, rfl, rfl⟩
    · refine ⟨State.endAll_one _ _ k x hk hothers, State.endCapture_reset_notices _ _, ?_⟩
      rw [State.endCapture_frame]
      rfl
  obtain ⟨hended, hnotices, hevents⟩ := hended
  rw [exec, execLoopReset, harrives, State.loopReset_eq, hended, State.resetBlocks_eq, hnotices, hevents]
  rfl

end Sys2Proof.Machine
end

section
/-! The seat of a request: what the taking of it changes before its entry runs (the port's counts and the origin table, R4,
R160) meets nothing that an entry reads or writes, so the entry's effect is that on the state before (R157). -/

namespace Sys2Proof.Machine

/-! ### The seat and the operations that the entries share -/

/-- The parts of the state that no request's entry reads or writes. -/
structure Seat where
  validCount : Nat
  damagedCount : Nat
  silence : Timer
  out : List OutItem
  origins : List Origin

/-- The state with those parts replaced. -/
def State.seat (s : State) (e : Seat) : State :=
  { s with
    port := { s.port with
      validCount := e.validCount, damagedCount := e.damagedCount, silence := e.silence, out := e.out }
    session := { s.session with origins := e.origins } }

/-- The seat that a request to node `s` takes (R4, R160). -/
def State.seatFor (s : State) (r : Request) : Seat :=
  { validCount := s.port.countValid.validCount
    damagedCount := s.port.countValid.damagedCount
    silence := s.port.countValid.silence
    out := s.port.out
    origins := originEntry r.src s.session.origins :: otherOrigins s.session.holder r.src s.session.origins }

theorem State.taken_eq_seat (s : State) (r : Request) : s.countValid.touchOrigin r.src = s.seat (s.seatFor r) := rfl

section
variable (s : State) (e : Seat)

/-- A walk of steps that commute with the taking of a seat commutes with it. -/
theorem foldl_seat {α : Type} {f : State → α → State} (hf : ∀ (t : State) (a : α), f (t.seat e) a = (f t a).seat e)
    (l : List α) : l.foldl f (s.seat e) = (l.foldl f s).seat e :=
  List.foldl_hom (State.seat · e) hf

theorem post_seat (kind : NoticeKind) (subject : Nat) (cls : SubjectClass) :
    (s.seat e).post kind subject cls = (s.post kind subject cls).seat e := by
  simp only [State.post, show (s.seat e).notices = s.notices from rfl]
  split
  · rfl
  · split
    · rfl
    · split
      · rfl
      · split <;> rfl

theorem ringLowTest_seat : (s.seat e).ringLowTest = s.ringLowTest.seat e := by
  simp only [State.ringLowTest, show (s.seat e).ring = s.ring from rfl, show (s.seat e).params = s.params from rfl,
    post_seat]
  split
  · split <;> rfl
  · rfl

theorem draw_seat : (s.seat e).draw = (s.draw.1, s.draw.2.seat e) := by
  simp only [State.draw, show (s.seat e).script = s.script from rfl]
  cases s.script <;> rfl

/-! ### Captures -/

theorem endStepOf_seat (o : Option (Fin 32)) : (s.seat e).endStepOf o = (s.endStepOf o).seat e := by
  cases o <;> rfl

theorem endNotified_seat (c : Context) (reason : EndReason) :
    (s.seat e).endNotified c reason = (s.endNotified c reason).seat e := by
  simp only [State.endNotified]
  split
  · exact post_seat (s.recordEnded c reason) e _ _ _
  · rfl

theorem endCapture_seat (k : Fin 4) (reason : EndReason) :
    (s.seat e).endCapture k reason = (s.endCapture k reason).seat e := by
  cases h : s.contexts[k] with
  | none => rw [State.endCapture_idle h, State.endCapture_idle (s := s.seat e) h]
  | some c =>
    rw [State.endCapture_active h, State.endCapture_active (s := s.seat e) h, endNotified_seat]
    rfl

theorem dropCapture_seat (k : Fin 4) : (s.seat e).dropCapture k = (s.dropCapture k).seat e := by
  simp only [State.dropCapture, show (s.seat e).contexts = s.contexts from rfl]
  cases s.contexts[k] with
  | none => rfl
  | some c => exact endStepOf_seat (s.setContext k none) e c.watchRef

theorem endOrder_seat : (s.seat e).endOrder = (s.endOrder.1, s.endOrder.2.seat e) := by
  simp only [State.endOrder, show (s.seat e).activeContexts = s.activeContexts from rfl, draw_seat]
  by_cases h : s.activeContexts.length ≤ 1
  · rw [if_pos h, if_pos h]
  · rw [if_neg h, if_neg h]

theorem endAll_seat (reason : EndReason) : (s.seat e).endAll reason = (s.endAll reason).seat e := by
  simp only [State.endAll, endOrder_seat]
  exact foldl_seat _ e (fun t k => endCapture_seat t e k reason) _

theorem dropAll_seat : (s.seat e).dropAll = s.dropAll.seat e :=
  foldl_seat s e (fun t k => dropCapture_seat t e k) s.activeContexts

theorem grant_seat (g : Fin 64) (k : Fin 4) (sequence : BitVec 32) (auto : Bool) :
    (s.seat e).grant g k sequence auto = (s.grant g k sequence auto).seat e := rfl

theorem allocate_seat (k : Fin 4) (sequence : BitVec 32) (p : Profile) :
    (s.seat e).allocate k sequence p = (s.allocate k sequence p).map fun x => (x.1, x.2.seat e) := by
  simp only [State.allocate, show (s.seat e).ring = s.ring from rfl]
  cases s.ring.fromCursor.find? fun g => s.ring.segs[g].isNone with
  | some g => simp [grant_seat, ringLowTest_seat]
  | none =>
    cases p.policy with
    | refuse => rfl
    | overwrite =>
      cases s.ring.completed.find? fun g => s.ring.isFull g with
      | none => rfl
      | some g =>
        have hpost := post_seat ((s.unlist g).bump .capturesLost 1) e .captureLost g.val .segment
        exact congrArg (fun t : State => some (g, t.grant g k sequence p.autoRelease)) hpost

theorem captureLost_seat (i : Fin 32) : (s.seat e).captureLost i = (s.captureLost i).seat e :=
  congrArg (State.modifyWatch · i Watch.endStep) (post_seat (s.bump .capturesLost 1) e .captureLost i.val .watch)

theorem addRow_seat (k : Fin 4) (values : List Sample) (pre gap : Bool) :
    (s.seat e).addRow k values pre gap = (s.addRow k values pre gap).seat e := by
  simp only [State.addRow, show (s.seat e).contexts = s.contexts from rfl]
  cases s.contexts[k] <;> rfl

theorem writePreRows_seat (k : Fin 4) (rows : List Row) :
    (s.seat e).writePreRows k rows = (s.writePreRows k rows).seat e :=
  foldl_seat s e (fun t row => addRow_seat t e k row.values true (row.kind == .missing)) rows

theorem afterPostRow_seat (k : Fin 4) (due : Sweep) :
    (s.seat e).afterPostRow k due = (s.afterPostRow k due).seat e := by
  simp only [State.afterPostRow, show (s.seat e).contexts = s.contexts from rfl]
  cases s.contexts[k] with
  | none => rfl
  | some c =>
    dsimp only
    split
    · exact endCapture_seat
        (s.setContext k (some { c with nextDue := some (due + BitVec.ofNat 16 c.snapshot.decimation) })) e k .complete
    · rfl

theorem triggerRow_seat (k : Fin 4) (prof : Profile) (o : Option Arrival) :
    (s.seat e).triggerRow k prof o = (s.triggerRow k prof o).seat e := by
  cases o with
  | none => rfl
  | some a => simp only [State.triggerRow, addRow_seat, afterPostRow_seat]

theorem openGranted_seat (k : Fin 4) (i : Fin 32) (p : Fin 8) (prof : Profile) (g : Fin 64)
    (trigger : Option Sweep) (o : Option Arrival) :
    (s.seat e).openGranted k i p prof g trigger o = (s.openGranted k i p prof g trigger o).seat e := by
  let c := Context.opened i p prof g (s.captureSeq + 1) trigger
  let t := ({ s with captureSeq := s.captureSeq + 1 }.setContext k (some c)).modifyWatch i
    fun x => { x with state := .fired }
  let u := t.writeSegment g 0 (c.header .inProgress t.events.timeBase)
  calc (s.seat e).openGranted k i p prof g trigger o
      = ((u.seat e).writePreRows k (u.openingRows prof trigger)).triggerRow k prof o := rfl
    _ = _ := by rw [writePreRows_seat, triggerRow_seat]; rfl

theorem openCapture_seat (k : Fin 4) (i : Fin 32) (p : Fin 8) (trigger : Option Sweep) (o : Option Arrival) :
    (s.seat e).openCapture k i p trigger o =
      ((s.openCapture k i p trigger o).1, (s.openCapture k i p trigger o).2.seat e) := by
  simp only [State.openCapture, show (s.seat e).profiles = s.profiles from rfl,
    show (s.seat e).captureSeq = s.captureSeq from rfl, allocate_seat, captureLost_seat]
  cases s.profiles[p] with
  | none => rfl
  | some prof =>
    dsimp only
    cases s.allocate k (s.captureSeq + 1) prof with
    | none => rfl
    | some x => exact congrArg (Prod.mk true) (openGranted_seat x.2 e k i p prof x.1 trigger o)

/-! ### Fires -/

theorem refuseFire_seat (i : Fin 32) : (s.seat e).refuseFire i = (s.refuseFire i).seat e :=
  post_seat ((s.bump .firesRefused 1).modifyWatch i Watch.refusedOnce) e .watchRefused i.val .watch

theorem requestMark_seat (o : Option (Fin 16)) : (s.seat e).requestMark o = (s.requestMark o).seat e := by
  cases o with
  | none => rfl
  | some m =>
    simp only [State.requestMark, show (s.seat e).port.link = s.port.link from rfl]
    split <;> rfl

theorem takeFire_seat (i : Fin 32) (c : Contents) (reference : Option Sweep) :
    (s.seat e).takeFire i c reference = (s.takeFire i c reference).seat e :=
  congrArg (State.requestPulse · c.pulse)
    (requestMark_seat ((s.bump .fires 1).modifyWatch i (·.firedOnce reference)) e c.markCode)

theorem notifyFire_seat (i : Fin 32) (c : Contents) : (s.seat e).notifyFire i c = (s.notifyFire i c).seat e := by
  simp only [State.notifyFire]
  split
  · exact post_seat s e .watchFired i.val .watch
  · rfl

theorem notifyFirst_seat (c : Contents) :
    (s.seat e).notifyFirst c = ((s.notifyFirst c).1, (s.notifyFirst c).2.seat e) := by
  simp only [State.notifyFirst, draw_seat]
  cases c.notify <;> rfl

theorem fireCapture_seat (i : Fin 32) (c : Contents) (p : Fin 8) (k : Fin 4) (reference : Option Sweep)
    (o : Option Arrival) : (s.seat e).fireCapture i c p k reference o =
      ((s.fireCapture i c p k reference o).1, (s.fireCapture i c p k reference o).2.seat e) := by
  simp only [State.fireCapture, notifyFirst_seat, notifyFire_seat, openCapture_seat]
  cases (s.notifyFirst c).1 <;> rfl

theorem fire_seat (i : Fin 32) (reference : Option Sweep) (o : Option Arrival) :
    (s.seat e).fire i reference o = ((s.fire i reference o).1, (s.fire i reference o).2.seat e) := by
  simp only [State.fire, show (s.seat e).watches = s.watches from rfl,
    show (s.seat e).idleContext = s.idleContext from rfl, takeFire_seat, notifyFire_seat, fireCapture_seat,
    refuseFire_seat]
  cases s.watches[i] with
  | none => rfl
  | some w =>
    dsimp only
    cases w.contents.profile with
    | none => rfl
    | some p => cases s.idleContext <;> rfl

/-! ### The watch table, the ring and the parameters -/

theorem armWatch_seat (i : Fin 32) : (s.seat e).armWatch i = (s.armWatch i).seat e := by
  simp only [State.armWatch, show (s.seat e).armCase i = s.armCase i from rfl]
  split <;> rfl

theorem disarmWatch_seat (i : Fin 32) : (s.seat e).disarmWatch i = (s.disarmWatch i).seat e := by
  simp only [State.disarmWatch, show (s.seat e).watches = s.watches from rfl]
  cases s.watches[i] with
  | none => rfl
  | some w => cases w with | mk state contents runtime => cases state <;> rfl

theorem armGroup_seat (mask : BitVec 4) : (s.seat e).armGroup mask = (s.armGroup mask).seat e :=
  foldl_seat s e (fun t i => armWatch_seat t e i) (s.watchesOf mask)

theorem disarmGroup_seat (mask : BitVec 4) : (s.seat e).disarmGroup mask = (s.disarmGroup mask).seat e :=
  foldl_seat s e (fun t i => disarmWatch_seat t e i) (s.watchesOf mask)

theorem format_seat (n size : Nat) : (s.seat e).format n size = (s.format n size).seat e :=
  ringLowTest_seat { s.freeAll with ring := { s.freeAll.ring with segCount := n, segSize := size } } e

theorem serveRead_seat (g : Fin 64) (x : Segment) (offset count room : Nat) :
    (s.seat e).serveRead g x offset count room =
      ((s.serveRead g x offset count room).1, (s.serveRead g x offset count room).2.seat e) := by
  let y := x.served (offset + servedCount count room x.fill offset)
  have hfree : (((s.seat e).modifySegment g fun _ => y).freeSegment g).ringLowTest =
    (((s.modifySegment g fun _ => y).freeSegment g).ringLowTest).seat e :=
    ringLowTest_seat ((s.modifySegment g fun _ => y).freeSegment g) e
  simp only [State.serveRead]
  rw [hfree]
  split <;> rfl

theorem writeParam_seat (x : Param) (v : Nat) : (s.seat e).writeParam x v = (s.writeParam x v).seat e := by
  cases x with
  | noticeSink =>
    simp only [State.writeParam, show (s.seat e).params = s.params from rfl]
    split <;> rfl
  | ringLow => exact ringLowTest_seat { s with params := s.params.set .ringLow v } e
  | _ => rfl

theorem clearTables_seat : (s.seat e).clearTables = s.clearTables.seat e :=
  congrArg (fun t : State => { t with
    watches := Vector.replicate 32 none
    profiles := Vector.replicate 8 none
    events := { t.events with table := Vector.replicate 16 EventEntry.powerOn }
    receiver := { t.receiver with historySet := [], history := [] } }) (endAll_seat s e .aborted)

theorem clearCaptures_seat : (s.seat e).clearCaptures = s.clearCaptures.seat e := by
  simp only [State.clearCaptures, endAll_seat]
  exact ringLowTest_seat (s.endAll .aborted).freeAll e

/-- One scope of CLEAR, taken where the scope set names it. -/
def State.takeScope (s : State) (named : Bool) (f : State → State) : State := if named then f s else s

/-- The scopes of CLEAR are taken one by one (R184). -/
theorem State.clear_eq (x : Scopes) : s.clear x =
    ((s.takeScope x.tables State.clearTables).takeScope x.captures State.clearCaptures).takeScope x.notices
      State.clearNotices := rfl

theorem takeScope_seat (named : Bool) {f : State → State} (hf : ∀ t : State, f (t.seat e) = (f t).seat e) :
    (s.seat e).takeScope named f = (s.takeScope named f).seat e := by
  cases named with
  | false => rfl
  | true => exact hf s

theorem clear_seat (x : Scopes) : (s.seat e).clear x = (s.clear x).seat e := by
  rw [State.clear_eq, State.clear_eq, takeScope_seat _ _ _ (clearTables_seat · e),
    takeScope_seat _ _ _ (clearCaptures_seat · e), takeScope_seat _ _ _ fun _ => rfl]

end

end Sys2Proof.Machine
end

section
/-! One law for a request that is taken: its entry's effect and answer are read off the state before (R157 to R166). -/

namespace Sys2Proof.Machine

variable {s t : State} {r : Request} {k : RequestKind} {a : Reply}

/-! ### The entries do not meet the seat -/

/-- An entry's answer and effect with a seat taken: the same answer, and the effect with the seat taken. -/
abbrev Seated (f : State → Reply × State) : Prop := ∀ (s : State) (e : Seat), f (s.seat e) = ((f s).1, (f s).2.seat e)

theorem seated_withWatch (c : Call) {f : State → Fin 32 → Reply × State} (hf : ∀ i, Seated (f · i)) :
    Seated fun s => withWatch c s (f s) := by
  intro s e
  simp only [withWatch]
  cases (paramSmall c.body 0).bind (indexBelow 32) with
  | none => rfl
  | some i => exact hf i s e

theorem seated_withProfile (c : Call) {f : State → Fin 8 → Reply × State} (hf : ∀ i, Seated (f · i)) :
    Seated fun s => withProfile c s (f s) := by
  intro s e
  simp only [withProfile]
  cases (paramSmall c.body 0).bind (indexBelow 8) with
  | none => rfl
  | some i => exact hf i s e

theorem seated_withSegment (c : Call) {f : State → Fin 64 → Reply × State} (hf : ∀ g, Seated (f · g)) :
    Seated fun s => withSegment c s (f s) := by
  intro s e
  simp only [withSegment, show (s.seat e).segmentIndex = s.segmentIndex from rfl]
  cases (paramSmall c.body 0).bind s.segmentIndex with
  | none => rfl
  | some g => exact hf g s e

theorem clearItems_eq (s : State) (x : Scopes) : s.clearItems x = [x.word] ++
    itemSmall (if x.tables || x.captures then s.activeContexts.length else 0) ++
    itemSmall (if x.captures then ((s.takeScope x.tables State.clearTables).ring.indices.countP
      fun g => (s.takeScope x.tables State.clearTables).ring.segs[g].isSome) else 0) ++
    itemSmall (if x.notices then ((s.takeScope x.tables State.clearTables).takeScope x.captures
      State.clearCaptures).notices.queue.length else 0) := rfl

theorem clearItems_seat (s : State) (e : Seat) (x : Scopes) : (s.seat e).clearItems x = s.clearItems x := by
  rw [clearItems_eq, clearItems_eq, takeScope_seat _ _ _ (clearTables_seat · e),
    takeScope_seat _ _ _ (clearCaptures_seat · e)]
  rfl

theorem doLoadWatch_seat (c : Call) : Seated (doLoadWatch c) := by
  intro s e
  simp only [doLoadWatch, show (s.seat e).watches = s.watches from rfl]
  cases readLoadWatch c.body with
  | error n => rfl
  | ok x => dsimp only; split <;> rfl

theorem doArm_seat (c : Call) : Seated (doArm c) := by
  refine seated_withWatch c fun i s e => ?_
  simp only [show (s.seat e).armCase i = s.armCase i from rfl, armWatch_seat]
  cases s.armCase i <;> rfl

theorem doForce_seat (c : Call) : Seated (doForce c) := by
  refine seated_withWatch c fun i s e => ?_
  simp only [show (s.seat e).watches = s.watches from rfl, show (s.seat e).receiver = s.receiver from rfl, fire_seat]
  split <;> rfl

theorem doFormatRing_seat (c : Call) : Seated (doFormatRing c) := by
  intro s e
  simp only [doFormatRing, show (s.seat e).ring = s.ring from rfl, dropAll_seat, format_seat]
  cases readFormat c.body with
  | error n => rfl
  | ok x =>
    obtain ⟨n, size, force⟩ := x
    dsimp only
    split
    · rfl
    · split <;> rfl

theorem doReadSegment_seat (c : Call) : Seated (doReadSegment c) := by
  intro s e
  simp only [doReadSegment, show (s.seat e).ring = s.ring from rfl, serveRead_seat,
    show (s.seat e).readReadSegment c.body = s.readReadSegment c.body from rfl]
  cases s.readReadSegment c.body with
  | none => rfl
  | some x =>
    dsimp only
    cases s.ring.segs[x.1] with
    | none => rfl
    | some y => dsimp only; split <;> rfl

theorem doScan_seat (c : Call) : Seated (doScan c) := by
  intro s e
  simp only [doScan, show (s.seat e).ring = s.ring from rfl, show (s.seat e).readScan c.body = s.readScan c.body from rfl]
  cases s.readScan c.body with
  | none => rfl
  | some o =>
    dsimp only
    cases s.ring.scanned o with
    | none => rfl
    | some g => dsimp only; cases s.ring.segs[g] <;> rfl

theorem doTakeover_seat (c : Call) : Seated (doTakeover c) := by
  intro s e
  simp only [doTakeover, show (s.seat e).session.holder = s.session.holder from rfl]
  cases s.session.holder with
  | none => rfl
  | some h =>
    dsimp only
    split
    · rfl
    · rw [show (s.seat e).giveLease c.origin = (s.giveLease c.origin).seat e from rfl, post_seat]
      rfl

theorem doClearWatch_seat (c : Call) : Seated (doClearWatch c) := by
  refine seated_withWatch c fun i s e => ?_
  simp only [show (s.seat e).watches = s.watches from rfl]
  split <;> rfl

theorem doGetWatch_seat (c : Call) : Seated (doGetWatch c) := by
  refine seated_withWatch c fun i s e => ?_
  simp only [show (s.seat e).watches = s.watches from rfl]
  cases s.watches[i] <;> rfl

theorem doDisarm_seat (c : Call) : Seated (doDisarm c) := by
  refine seated_withWatch c fun i s e => ?_
  simp only [show (s.seat e).watches = s.watches from rfl, disarmWatch_seat]
  cases s.watches[i] <;> rfl

theorem doClearProfile_seat (c : Call) : Seated (doClearProfile c) := by
  refine seated_withProfile c fun i s e => ?_
  simp only [show (s.seat e).profiles = s.profiles from rfl, show (s.seat e).profileHolder = s.profileHolder from rfl]
  cases s.profiles[i] with
  | none => rfl
  | some p => dsimp only; cases s.profileHolder i <;> rfl

theorem doGetProfile_seat (c : Call) : Seated (doGetProfile c) := by
  refine seated_withProfile c fun i s e => ?_
  simp only [show (s.seat e).profiles = s.profiles from rfl]
  cases s.profiles[i] <;> rfl

theorem doReleaseSegment_seat (c : Call) : Seated (doReleaseSegment c) := by
  refine seated_withSegment c fun g s e => ?_
  simp only [show (s.seat e).ring = s.ring from rfl,
    show ((s.seat e).freeSegment g) = (s.freeSegment g).seat e from rfl, ringLowTest_seat]
  cases s.ring.segs[g] with
  | none => rfl
  | some x => dsimp only; split <;> rfl

theorem doSegmentInfo_seat (c : Call) : Seated (doSegmentInfo c) := by
  refine seated_withSegment c fun g s e => ?_
  simp only [show (s.seat e).ring = s.ring from rfl]
  cases s.ring.segs[g] <;> rfl

/-- No entry meets the seat of its request. -/
theorem execRequest_seat (k : RequestKind) (c : Call) : Seated (execRequest k c) := by
  intro s e
  cases k with
  | status => rfl
  | getParam =>
    simp only [execRequest, doGetParam]
    cases paramSmall c.body 0 with
    | none => rfl
    | some n => dsimp only; split; rfl; cases paramOf n <;> rfl
  | setParam =>
    simp only [execRequest, doSetParam, writeParam_seat]
    cases readSetParam c.body <;> rfl
  | readCounters =>
    simp only [execRequest, doReadCounters]
    cases paramYesNo c.body 0 with
    | none => rfl
    | some clear => cases clear <;> rfl
  | clear =>
    simp only [execRequest, doClear, clearItems_seat, clear_seat]
    cases paramWord c.body 0 <;> rfl
  | setHistory =>
    simp only [execRequest, doSetHistory, show (s.seat e).historyConflict = s.historyConflict from rfl]
    cases readHistorySet c.body with
    | none => rfl
    | some l => dsimp only; cases s.historyConflict l <;> rfl
  | loadWatch => exact doLoadWatch_seat c s e
  | clearWatch => exact doClearWatch_seat c s e
  | getWatch => exact doGetWatch_seat c s e
  | arm => exact doArm_seat c s e
  | disarm => exact doDisarm_seat c s e
  | armGroup =>
    simp only [execRequest, doArmGroup, armGroup_seat]
    cases maskOf c <;> rfl
  | disarmGroup =>
    simp only [execRequest, doDisarmGroup, disarmGroup_seat]
    cases maskOf c <;> rfl
  | force => exact doForce_seat c s e
  | loadProfile =>
    simp only [execRequest, doLoadProfile, show (s.seat e).receiver = s.receiver from rfl]
    cases readLoadProfile c.body with
    | error n => rfl
    | ok x => dsimp only; cases x.2.lacks s.receiver.historySet <;> rfl
  | clearProfile => exact doClearProfile_seat c s e
  | getProfile => exact doGetProfile_seat c s e
  | abortCapture =>
    simp only [execRequest, doAbortCapture, show (s.seat e).contexts = s.contexts from rfl, endCapture_seat]
    cases (paramSmall c.body 0).bind (indexBelow 4) with
    | none => rfl
    | some k => dsimp only; cases s.contexts[k] <;> rfl
  | getContexts => rfl
  | formatRing => exact doFormatRing_seat c s e
  | readSegment => exact doReadSegment_seat c s e
  | releaseSegment => exact doReleaseSegment_seat c s e
  | segmentInfo => exact doSegmentInfo_seat c s e
  | scan => exact doScan_seat c s e
  | ackNotices =>
    simp only [execRequest, doAckNotices]
    cases readAck c.body <;> rfl
  | setEventEntry =>
    simp only [execRequest, doSetEventEntry]
    cases readEventEntry c.body <;> rfl
  | getEventEntry =>
    simp only [execRequest, doGetEventEntry]
    cases (paramSmall c.body 0).bind (indexBelow 16) <;> rfl
  | setTime =>
    simp only [execRequest, doSetTime]
    cases param48 c.body 0 <;> rfl
  | claim =>
    simp only [execRequest, doClaim, show (s.seat e).session.holder = s.session.holder from rfl]
    cases s.session.holder with
    | none => rfl
    | some h => dsimp only; split <;> rfl
  | renew => rfl
  | yield => rfl
  | takeover => exact doTakeover_seat c s e

/-! ### The state after a request that is taken -/

/-- An effect that leaves of the port all but the pending mark word, and the straps: what an answered request needs. -/
structure Keeps (s t : State) : Prop where
  strap : t.strap = s.strap
  port : t.port = { s.port with markWord := t.port.markWord }

theorem Keeps.refl (s : State) : Keeps s s := ⟨rfl, rfl⟩

theorem seat_of_keeps (h : Keeps s t) (r : Request) : t.seat (s.seatFor r) =
    { t with
      port := { s.countValid.port with markWord := t.port.markWord }
      session := { t.session with
        origins := originEntry r.src s.session.origins :: otherOrigins s.session.holder r.src s.session.origins } } := by
  have hport : (t.seat (s.seatFor r)).port = { s.countValid.port with markWord := t.port.markWord } := by
    rw [State.seat, h.port]
    rfl
  exact congrArg (fun p : Port => { t.seat (s.seatFor r) with port := p }) hport

/-- A control request of the holder whose entry answers `a` with effect `t`, which keeps the holder (R164, R166). -/
theorem State.control_answered (h : s.permits r k) (ha : k ≠ .ackNotices) (ht : k ≠ .takeover)
    (hc : k.isControl r.body = true) (he : execRequest k (callOf r) s = (a, t)) (hk : Keeps s t)
    (hh : t.session.holder = s.session.holder) : s.requestArrives r k.code = s.controlled t r k a := by
  refine State.request_controlled s t r k a h ha ht hc ?_ hk.strap hh hk.port
  rw [State.taken_eq_seat, execRequest_seat, he, ← seat_of_keeps hk]

/-- An observe request whose entry answers `a` with effect `t` (R164, R166). -/
theorem State.observe_answered (h : s.admits r k) (hc : k.isControl r.body = false)
    (hq : s.classOk k (callOf r) = true) (he : execRequest k (callOf r) s = (a, t)) (hk : Keeps s t) :
    s.requestArrives r k.code = s.observed t r k a := by
  refine State.request_observed s t r k a h hc hq ?_ hk.strap hk.port
  rw [State.taken_eq_seat, execRequest_seat, he, ← seat_of_keeps hk]

/-- A request of the holder's that changes nothing. -/
theorem State.control_refused (h : s.permits r k) (ha : k ≠ .ackNotices) (ht : k ≠ .takeover)
    (hc : k.isControl r.body = true) (he : execRequest k (callOf r) s = (a, s)) :
    s.requestArrives r k.code = s.controlled s r k a :=
  State.control_answered h ha ht hc he (.refl s) rfl

/-- An observe request of a kind that every origin may ask, which changes nothing. -/
theorem State.observe_reported (h : s.admits r k) (hc : k.isControl r.body = false) (ha : k ≠ .ackNotices)
    (he : execRequest k (callOf r) s = (a, s)) : s.requestArrives r k.code = s.observed s r k a :=
  State.observe_answered h hc (State.classOk_observe s k (callOf r) hc ha) he (.refl s)

/-! ### Parameters that a statement calls numbers -/

/-- A request that is taken has the body words its fixed reply makes room for (R158). -/
theorem State.admits_length (h : s.admits r k) : k.fixedReply ≤ r.body.length + 3 := h.2.2

theorem State.admits_paramSmall (h : s.admits r k) {n : Nat} (hn : n + 4 ≤ k.fixedReply) :
    paramSmall r.body n = some (r.number n) :=
  paramSmall_number r n (by have := State.admits_length h; omega)

theorem indexBelow_eq_some {n x : Nat} (i : Fin n) (h : x = i.val) : indexBelow n x = some i := by
  subst h
  simp [indexBelow]

theorem indexBelow_eq_none {n x : Nat} (h : n ≤ x) : indexBelow n x = none := by
  simp [indexBelow, Nat.not_lt.2 h]

end Sys2Proof.Machine
end

section
/-! Requests of the watch table: LOAD WATCH, CLEAR WATCH, GET WATCH, ARM, DISARM and the group walks (R40 to R48). -/

namespace Sys2Proof.Machine

variable {s : State} {r : Request} {k : RequestKind} {i : Fin 32} {w : Watch}

/-! ### The lowest index with a property -/

theorem finRange_split {n : Nat} (i : Fin n) :
    ∃ l₁ l₂, List.finRange n = l₁ ++ i :: l₂ ∧ ∀ j ∈ l₁, j < i := by
  obtain ⟨l₁, l₂, hl⟩ := List.append_of_mem (List.mem_finRange i)
  have hlt := List.pairwise_lt_finRange n
  rw [hl, List.pairwise_append] at hlt
  exact ⟨l₁, l₂, hl, fun j hj => hlt.2.2 j hj i (List.mem_cons_self ..)⟩

theorem find?_finRange {n : Nat} {p : Fin n → Bool} {i : Fin n} (hi : p i = true) (hlow : ∀ j < i, p j = false) :
    (List.finRange n).find? p = some i := by
  obtain ⟨l₁, l₂, hl, hlt⟩ := finRange_split i
  rw [hl, List.find?_eq_some_iff_append]
  exact ⟨hi, l₁, l₂, rfl, fun j hj => by simp [hlow j (hlt j hj)]⟩

theorem findSome?_finRange {n : Nat} {β : Type} {f : Fin n → Option β} {i : Fin n} {b : β} (hi : f i = some b)
    (hlow : ∀ j < i, f j = none) : (List.finRange n).findSome? f = some b := by
  obtain ⟨l₁, l₂, hl, hlt⟩ := finRange_split i
  rw [hl, List.findSome?_eq_some_iff]
  exact ⟨l₁, i, l₂, rfl, hi, fun j hj => hlow j (hlt j hj)⟩

/-! ### The watch index of a request -/

theorem withWatch_index (h : s.admits r k) (hk : 4 ≤ k.fixedReply) (hi : r.number 0 = i.val)
    (f : Fin 32 → Reply × State) : withWatch (callOf r) s f = f i := by
  have hread : paramSmall (callOf r).body 0 = some (r.number 0) := State.admits_paramSmall h hk
  rw [withWatch, hread, Option.bind_some, indexBelow_eq_some i hi]

theorem withWatch_range (h : s.admits r k) (hk : 4 ≤ k.fixedReply) (hi : 31 < r.number 0)
    (f : Fin 32 → Reply × State) : withWatch (callOf r) s f = (.other .range [], s) := by
  have hread : paramSmall (callOf r).body 0 = some (r.number 0) := State.admits_paramSmall h hk
  rw [withWatch, hread, Option.bind_some, indexBelow_eq_none hi]

theorem isFired_eq_false : isFired s.watches[i] = false ↔ ∀ w, s.watches[i] = some w → w.state ≠ .fired := by
  cases s.watches[i] <;> simp [isFired]

theorem watchCode_some (h : s.watches[i] = some w) : s.watchCode i = watchCode (some w) := by
  rw [State.watchCode, h]

/-! ### LOAD WATCH and CLEAR WATCH -/

theorem loadable_iff : loadable s.watches[i] = true ↔
    s.watches[i] = none ∨ ∃ w, s.watches[i] = some w ∧ w.state = .idle := by
  cases s.watches[i] <;> simp [loadable]

/-- Settles O3: each case of R41 and R42 is one branch of the entry. -/
theorem watchesLoadAndClear : Obligations.WatchesLoadAndClear := by
  unfold Obligations.WatchesLoadAndClear
  refine ⟨fun s r i c h hread => ⟨fun hfree => ?_, fun w hw hidle => ?_⟩, fun s r n h hread => ?_, fun s r h =>
    ⟨fun hi => ?_, fun i hi => ⟨fun hfree => ?_, fun w hw hfired => ?_⟩⟩⟩
  · refine congrArg Host.Outcome.next (State.control_answered h (by decide) (by decide) rfl ?_ ⟨rfl, rfl⟩ rfl)
    simp only [execRequest, doLoadWatch, callOf, hread, loadable_iff.2 hfree, if_true]
    rfl
  · have hload : loadable s.watches[i] = false := by simp [loadable, hw, hidle]
    refine congrArg Host.Outcome.next (State.control_refused h (by decide) (by decide) rfl ?_)
    simp only [execRequest, doLoadWatch, callOf, hread, hload, watchCode_some hw]
    rfl
  · refine congrArg Host.Outcome.next (State.control_refused h (by decide) (by decide) rfl ?_)
    simp only [execRequest, doLoadWatch, callOf, hread]
    rfl
  · exact congrArg Host.Outcome.next (State.control_refused h (by decide) (by decide) rfl
      (withWatch_range h.1 (by decide) hi _))
  · refine congrArg Host.Outcome.next (State.control_answered h (by decide) (by decide) rfl
      ((withWatch_index h.1 (by decide) hi _).trans ?_) ⟨rfl, rfl⟩ rfl)
    rw [isFired_eq_false.2 hfree]
    rfl
  · refine congrArg Host.Outcome.next (State.control_refused h (by decide) (by decide) rfl
      ((withWatch_index h.1 (by decide) hi _).trans ?_))
    simp [isFired, hw, hfired, watchCode_some, watchCode, itemSmall]

/-! ### ARM and DISARM -/

theorem armCase_idle_or_spent (hw : s.watches[i] = some w) (hstate : w.state = .idle ∨ w.state = .spent) :
    s.armCase i = (s.missingProfile w).elim .arms .noProfile := by
  obtain h | h := hstate <;>
  · rw [State.armCase, hw]
    simp only [h]
    cases s.missingProfile w <;> rfl

theorem armCase_eq_arms_iff : s.armCase i = .arms ↔ ∃ w, s.watches[i] = some w ∧ (w.state = .idle ∨ w.state = .spent) ∧
    ∀ p, w.contents.profile = some p → (s.profiles[p]).isSome = true := by
  constructor
  · intro h
    obtain ⟨w, hw, hstate, hprofile⟩ := State.armCase_arms h
    exact ⟨w, hw, hstate, State.missingProfile_eq_none_iff.1 hprofile⟩
  · rintro ⟨w, hw, hstate, hprofile⟩
    rw [armCase_idle_or_spent hw hstate, State.missingProfile_eq_none_iff.2 hprofile]
    rfl

theorem watchCode_setAt (w : Watch) : ({ s with watches := setAt s.watches i (some w) } : State).watchCode i =
    watchCode (some w) := by
  rw [State.watchCode, getElem_setAt_self]

/-- Settles O5: the cases of R44 in their order. -/
theorem armByState : Obligations.ArmByState := by
  unfold Obligations.ArmByState
  intro s r h
  refine ⟨fun hi => ?_, fun i hi => ?_⟩
  · exact congrArg Host.Outcome.next (State.control_refused h (by decide) (by decide) rfl
      (withWatch_range h.1 (by decide) hi _))
  have hsame {a : Reply} (hcase : doArm (callOf r) s = (a, s)) :
      exec (.arm r) s = .next (s.controlled s r .arm a) :=
    congrArg Host.Outcome.next (State.control_refused h (by decide) (by decide) rfl hcase)
  have harm : doArm (callOf r) s = _ := withWatch_index h.1 (by decide) hi _
  refine ⟨fun hw => hsame ?_, fun w hw => ⟨fun hs => hsame ?_, fun hs => hsame ?_, fun hs => hsame ?_, fun hs =>
    ⟨fun p hp hnone => hsame ?_, fun hp => ?_⟩⟩⟩
  · rw [harm]
    simp [State.armCase, hw, State.watchCode, watchCode, itemSmall]
  · rw [harm]
    simp [State.armCase, hw, hs, State.watchCode, watchCode, itemSmall]
  · rw [harm]
    simp [State.armCase, hw, hs, State.watchCode, watchCode, itemSmall]
  · rw [harm]
    simp [State.armCase, hw, hs, State.watchCode, watchCode, itemSmall]
  · have hmissing : s.missingProfile w = some p := by simp [State.missingProfile, hp, hnone]
    rw [harm, armCase_idle_or_spent hw hs, hmissing, watchCode_some hw]
    rfl
  · have hcase : s.armCase i = .arms := armCase_eq_arms_iff.2 ⟨w, hw, hs, hp⟩
    refine congrArg Host.Outcome.next (State.control_answered h (by decide) (by decide) rfl (harm.trans ?_) ⟨rfl, rfl⟩ rfl)
    rw [hcase]
    simp only [State.armWatch, hcase, if_true, State.modifyWatch, hw, Option.map_some, watchCode_setAt]
    rfl

/-! ### Captures that lose their watch -/

/-- A context whose capture no longer refers to the watches that are let go (R46). -/
def Context.without (gone : Fin 32 → Bool) (c : Context) : Context :=
  { c with watchRef := c.watchRef.filter fun i => !gone i }

theorem Context.without_none {gone : Fin 32 → Bool} (h : ∀ i, gone i = false) (c : Context) : c.without gone = c := by
  have hkept : (c.watchRef.filter fun i => !gone i) = c.watchRef := by cases c.watchRef <;> simp [h]
  rw [Context.without, hkept]

theorem Context.forget_eq (i : Fin 32) (c : Context) : c.forget i = c.without fun j => decide (j = i) := by
  have hkept : (c.watchRef.filter fun j => !decide (j = i)) = if c.watchRef = some i then none else c.watchRef := by
    cases c.watchRef with
    | none => rfl
    | some j => by_cases hj : j = i <;> simp [hj]
  rw [Context.without, hkept, Context.forget]

theorem Context.without_without (p q : Fin 32 → Bool) (c : Context) :
    (c.without p).without q = c.without fun i => p i || q i := by
  have hkept : ((c.watchRef.filter fun i => !p i).filter fun i => !q i) = c.watchRef.filter fun i => !(p i || q i) := by
    simp [Option.filter_filter]
  simp only [Context.without, hkept]

/-- The contexts without their references to the watches that are let go. -/
def contextsWithout (gone : Fin 32 → Bool) (v : Vector (Option Context) 4) : Vector (Option Context) 4 :=
  mapTable (fun _ o => o.map (Context.without gone)) v

theorem contextsWithout_none {gone : Fin 32 → Bool} (h : ∀ i, gone i = false) (v : Vector (Option Context) 4) :
    contextsWithout gone v = v :=
  table_ext fun k => by
    rw [contextsWithout, getElem_mapTable]
    cases v[k] with
    | none => rfl
    | some c => exact congrArg some (c.without_none h)

theorem contextsWithout_contextsWithout (p q : Fin 32 → Bool) (v : Vector (Option Context) 4) :
    contextsWithout q (contextsWithout p v) = contextsWithout (fun i => p i || q i) v :=
  table_ext fun k => by
    simp only [contextsWithout, getElem_mapTable]
    cases v[k] with
    | none => rfl
    | some c => exact congrArg some (c.without_without p q)

/-! ### DISARM -/

theorem disarms_some (hw : s.watches[i] = some w) : s.disarms i = (w.state != .idle) := by
  rw [State.disarms, hw]

theorem disarms_none (hw : s.watches[i] = none) : s.disarms i = false := by
  rw [State.disarms, hw]

theorem disarmWatch_of_not_disarms (h : s.disarms i = false) : s.disarmWatch i = s := by
  rw [State.disarmWatch]
  cases hw : s.watches[i] with
  | none => rfl
  | some w =>
    have hidle : w.state = .idle := by simpa [disarms_some hw] using h
    simp only [hidle]

theorem disarmWatch_unfired (hw : s.watches[i] = some w) (hs : w.state = .armed ∨ w.state = .holdoff ∨ w.state = .spent) :
    s.disarmWatch i = { s with watches := setAt s.watches i (some w.disarmed) } := by
  obtain hs | hs | hs := hs <;> simp only [State.disarmWatch, hw, hs, State.modifyWatch, Option.map_some]

theorem disarmWatch_fired (hw : s.watches[i] = some w) (hs : w.state = .fired) :
    s.disarmWatch i = { s with
      watches := setAt s.watches i (some w.disarmed)
      contexts := mapTable (fun _ o => o.map (Context.forget i)) s.contexts } := by
  simp only [State.disarmWatch, hw, hs, State.modifyWatch, Option.map_some, State.orphan]

/-- R45 and R46 as one change of the state. -/
theorem disarmWatch_eq (s : State) (i : Fin 32) : s.disarmWatch i =
    { s with
      watches := setAt s.watches i (if s.disarms i then (s.watches[i]).map Watch.disarmed else s.watches[i])
      contexts := contextsWithout (fun j => decide (j = i) && isFired s.watches[i]) s.contexts } := by
  cases hdis : s.disarms i with
  | false =>
    have hfired : isFired s.watches[i] = false := isFired_eq_false.2 fun w hw hs => by
      simp [disarms_some hw, hs] at hdis
    rw [disarmWatch_of_not_disarms hdis, contextsWithout_none (by rw [hfired]; simp), if_neg (by decide),
      setAt_getElem_self]
  | true =>
    cases hw : s.watches[i] with
    | none => simp [disarms_none hw] at hdis
    | some w =>
      by_cases hs : w.state = .fired
      · have hgone : (fun j => decide (j = i) && isFired (some w)) = fun j => decide (j = i) := by simp [isFired, hs]
        have hforget : Context.forget i = Context.without fun j => decide (j = i) := funext (Context.forget_eq i)
        rw [disarmWatch_fired hw hs, hgone, hforget]
        rfl
      · have hstate : w.state = .armed ∨ w.state = .holdoff ∨ w.state = .spent := by
          have hidle : w.state ≠ .idle := by simpa [disarms_some hw] using hdis
          cases hc : w.state <;> simp_all
        rw [disarmWatch_unfired hw hstate, contextsWithout_none (by simp [isFired, hs])]
        rfl

/-- Settles O6: DISARM by the watch's state, through R45 as one change. -/
theorem disarmByState : Obligations.DisarmByState := by
  unfold Obligations.DisarmByState
  intro s r h
  refine ⟨fun hi => ?_, fun i hi => ?_⟩
  · exact congrArg Host.Outcome.next (State.control_refused h (by decide) (by decide) rfl
      (withWatch_range h.1 (by decide) hi _))
  have hentry : doDisarm (callOf r) s = _ := withWatch_index h.1 (by decide) hi _
  refine ⟨fun hw => ?_, fun w hw => ?_⟩
  · refine congrArg Host.Outcome.next (State.control_refused h (by decide) (by decide) rfl (hentry.trans ?_))
    rw [hw]
    rfl
  have heffect {t : State} (ht : s.disarmWatch i = t) (hidle : t.watchCode i = 1) (hk : Keeps s t)
      (hh : t.session.holder = s.session.holder) :
      exec (.disarm r) s = .next (s.controlled t r .disarm (.ok [1])) := by
    refine congrArg Host.Outcome.next (State.control_answered h (by decide) (by decide) rfl (hentry.trans ?_) hk hh)
    rw [hw, ht]
    exact congrArg (fun n => (Reply.ok (itemSmall n), t)) hidle
  have hdisarmed : watchCode (some w.disarmed) = 1 := rfl
  refine ⟨fun hs => heffect ?_ ?_ (.refl s) rfl, fun hs => heffect ?_ ?_ ⟨rfl, rfl⟩ rfl,
    fun hs => heffect ?_ ?_ ⟨rfl, rfl⟩ rfl⟩
  · exact disarmWatch_of_not_disarms (by simp [disarms_some hw, hs])
  · rw [State.watchCode, hw, watchCode, hs]
  · exact disarmWatch_unfired hw hs
  · exact (watchCode_setAt _).trans hdisarmed
  · exact disarmWatch_fired hw hs
  · rw [State.watchCode, getElem_setAt_self]
    exact hdisarmed

/-! ### The group walks -/

theorem armWatch_watches (s : State) (i : Fin 32) : (s.armWatch i).watches =
    setAt s.watches i (if s.armCase i = .arms then (s.watches[i]).map Watch.armedFresh else s.watches[i]) := by
  rw [State.armWatch]
  split
  · rfl
  · rw [setAt_getElem_self]

theorem armWatch_eq (s : State) (i : Fin 32) : s.armWatch i = { s with watches := (s.armWatch i).watches } := by
  rw [State.armWatch]
  split <;> rfl

theorem armCase_congr {t : State} (hw : t.watches[i] = s.watches[i]) (hp : t.profiles = s.profiles) :
    t.armCase i = s.armCase i := by
  rw [State.armCase, State.armCase, hw]
  simp only [State.missingProfile, hp]

/-- The watches that a test names changed, the others as they were. -/
def watchesWhere (p : Fin 32 → Bool) (f : Watch → Watch) (v : Vector (Option Watch) 32) : Vector (Option Watch) 32 :=
  mapTable (fun i o => if p i then o.map f else o) v

theorem getElem_watchesWhere (p : Fin 32 → Bool) (f : Watch → Watch) (v : Vector (Option Watch) 32) (i : Fin 32) :
    (watchesWhere p f v)[i] = if p i then (v[i]).map f else v[i] := by
  rw [watchesWhere, getElem_mapTable]

theorem watchesWhere_none {p : Fin 32 → Bool} (h : ∀ i, p i = false) (f : Watch → Watch)
    (v : Vector (Option Watch) 32) : watchesWhere p f v = v :=
  table_ext fun i => by rw [getElem_watchesWhere, h i, if_neg (by decide)]

/-- One watch taken, then others by a test that the first one's change does not move. -/
theorem watchesWhere_setAt {p q : Fin 32 → Bool} {f : Watch → Watch} {v : Vector (Option Watch) 32} {a : Fin 32}
    (ha : q a = false) (hp : ∀ i, i ≠ a → q i = p i) :
    watchesWhere q f (setAt v a (if p a then (v[a]).map f else v[a])) = watchesWhere p f v := by
  refine table_ext fun i => ?_
  rw [getElem_watchesWhere, getElem_watchesWhere]
  by_cases hi : i = a
  · subst hi
    rw [ha, if_neg (by decide), getElem_setAt_self]
  · rw [hp i hi, getElem_setAt_ne _ (Ne.symm hi)]

/-- The ARM GROUP walk over any list of different watches (R47). -/
theorem foldl_armWatch (l : List (Fin 32)) (hl : l.Nodup) (s : State) : l.foldl State.armWatch s =
    { s with watches := watchesWhere (fun i => decide (i ∈ l ∧ s.armCase i = .arms)) Watch.armedFresh s.watches } := by
  induction l generalizing s with
  | nil =>
    rw [watchesWhere_none (by simp)]
    rfl
  | cons a l ih =>
    obtain ⟨ha, hl⟩ := List.nodup_cons.1 hl
    have hwatches : watchesWhere (fun i => decide (i ∈ l ∧ (s.armWatch a).armCase i = .arms)) Watch.armedFresh
        (s.armWatch a).watches = watchesWhere (fun i => decide (i ∈ a :: l ∧ s.armCase i = .arms)) Watch.armedFresh
          s.watches := by
      have htable : (s.armWatch a).watches = setAt s.watches a (if decide (a ∈ a :: l ∧ s.armCase a = .arms) then
          (s.watches[a]).map Watch.armedFresh else s.watches[a]) := by
        rw [armWatch_watches]
        exact congrArg (setAt s.watches a) (if_congr (by simp) rfl rfl)
      have hcase {i : Fin 32} (hi : i ≠ a) : (s.armWatch a).armCase i = s.armCase i :=
        armCase_congr (by rw [armWatch_watches, getElem_setAt_ne _ (Ne.symm hi)]) (by rw [armWatch_eq])
      rw [htable]
      refine watchesWhere_setAt (p := fun i => decide (i ∈ a :: l ∧ s.armCase i = .arms)) (by simp [ha]) fun i hi => ?_
      rw [hcase hi]
      simp [hi]
    rw [List.foldl_cons, ih hl, hwatches, armWatch_eq]

/-- The DISARM GROUP walk over any list of different watches (R48). -/
theorem foldl_disarmWatch (l : List (Fin 32)) (hl : l.Nodup) (s : State) : l.foldl State.disarmWatch s =
    { s with
      watches := watchesWhere (fun i => decide (i ∈ l) && s.disarms i) Watch.disarmed s.watches
      contexts := contextsWithout (fun i => decide (i ∈ l) && isFired s.watches[i]) s.contexts } := by
  induction l generalizing s with
  | nil =>
    rw [watchesWhere_none (by simp), contextsWithout_none (by simp)]
    rfl
  | cons a l ih =>
    obtain ⟨ha, hl⟩ := List.nodup_cons.1 hl
    have hother {i : Fin 32} (hi : i ≠ a) : (s.disarmWatch a).watches[i] = s.watches[i] := by
      rw [disarmWatch_eq]
      exact getElem_setAt_ne _ (Ne.symm hi) _
    have hwatches : watchesWhere (fun i => decide (i ∈ l) && (s.disarmWatch a).disarms i) Watch.disarmed
        (s.disarmWatch a).watches = watchesWhere (fun i => decide (i ∈ a :: l) && s.disarms i) Watch.disarmed
          s.watches := by
      have hfirst : s.disarms a = (decide (a ∈ a :: l) && s.disarms a) := by simp
      have htable : (s.disarmWatch a).watches = setAt s.watches a
          (if decide (a ∈ a :: l) && s.disarms a then (s.watches[a]).map Watch.disarmed else s.watches[a]) := by
        rw [disarmWatch_eq, ← hfirst]
      rw [htable]
      refine watchesWhere_setAt (p := fun i => decide (i ∈ a :: l) && s.disarms i) (by simp [ha]) fun i hi => ?_
      have hdis : (s.disarmWatch a).disarms i = s.disarms i := by rw [State.disarms, hother hi, State.disarms]
      rw [hdis]
      simp [hi]
    have hcontexts : contextsWithout (fun i => decide (i ∈ l) && isFired (s.disarmWatch a).watches[i])
        (s.disarmWatch a).contexts =
          contextsWithout (fun i => decide (i ∈ a :: l) && isFired s.watches[i]) s.contexts := by
      have hfirst : (s.disarmWatch a).contexts =
          contextsWithout (fun i => decide (i = a) && isFired s.watches[a]) s.contexts := by rw [disarmWatch_eq]
      rw [hfirst, contextsWithout_contextsWithout]
      refine congrArg (contextsWithout · s.contexts) (funext fun i => ?_)
      by_cases hi : i = a
      · subst hi
        simp [ha]
      · rw [hother hi]
        simp [hi]
    rw [List.foldl_cons, ih hl, hwatches, hcontexts, disarmWatch_eq]

/-- The mask of a request names a group where its first body word has the group's bit (R186). -/
theorem maskOf_call (h : s.admits r k) (hk : 4 ≤ k.fixedReply) :
    ∃ m : BitVec 4, maskOf (callOf r) = some m ∧ ∀ g : Fin 4, m.getLsbD g.val = (r.number 0).testBit g.val := by
  have hlen : 0 < r.body.length := by
    have hlong := hk.trans (State.admits_length h)
    omega
  refine ⟨r.body[0].extractLsb' 0 4, ?_, fun g => ?_⟩
  · rw [maskOf, paramWord]
    simp [callOf, List.getElem?_eq_getElem hlen]
  · simp [Request.number, List.getD_eq_getElem?_getD, List.getElem?_eq_getElem hlen, BitVec.getLsbD,
      Nat.testBit_mod_two_pow (j := 4)]

theorem nodup_watchesOf (s : State) (m : BitVec 4) : (s.watchesOf m).Nodup := by
  rw [State.watchesOf, indicesWhere]
  exact (List.nodup_finRange 32).filter _

theorem mem_watchesOf {m : BitVec 4} : i ∈ s.watchesOf m ↔
    ∃ w, s.watches[i] = some w ∧ m.getLsbD w.contents.group.val = true := by
  rw [State.watchesOf, mem_indicesWhere]
  cases s.watches[i] <;> simp

/-- A walk's changed watches, listed, are those that a predicate names. -/
theorem filter_watchesOf {m : BitVec 4} {p changes : Fin 32 → Bool}
    (h : ∀ i, changes i = true ↔ i ∈ s.watchesOf m ∧ p i = true) :
    (s.watchesOf m).filter p = (List.finRange 32).filter changes := by
  rw [State.watchesOf, indicesWhere, List.filter_filter]
  refine List.filter_congr fun i _ => ?_
  rw [Bool.eq_iff_iff, h i, State.watchesOf, mem_indicesWhere, Bool.and_eq_true, and_comm]

/-- Settles O7: each walk changes the watches that ARM and DISARM would, one by one. -/
theorem groupWalks : Obligations.GroupWalks := by
  unfold Obligations.GroupWalks
  refine ⟨fun s r changes h hchanges => ?_, fun s r changes h hchanges => ?_⟩
  · obtain ⟨m, hm, hbit⟩ := maskOf_call h.1 (by decide)
    have hiff (i : Fin 32) : changes i = true ↔ i ∈ s.watchesOf m ∧ s.armCase i = .arms := by
      rw [hchanges i, mem_watchesOf, armCase_eq_arms_iff]
      constructor
      · rintro ⟨w, hw, hgroup, hstate⟩
        exact ⟨⟨w, hw, (hbit _).trans hgroup⟩, w, hw, hstate⟩
      · rintro ⟨⟨w, hw, hgroup⟩, v, hv, hstate⟩
        cases hw.symm.trans hv
        exact ⟨w, hw, (hbit _).symm.trans hgroup, hstate⟩
    have hlist : s.armable m = (List.finRange 32).filter changes := filter_watchesOf fun i => by simp [hiff i]
    have htest : (fun i => decide (i ∈ s.watchesOf m ∧ s.armCase i = .arms)) = changes := by
      funext i
      rw [Bool.eq_iff_iff, decide_eq_true_eq, hiff i]
    refine congrArg Host.Outcome.next (State.control_answered h (by decide) (by decide) rfl ?_ ⟨rfl, rfl⟩ rfl)
    rw [execRequest, doArmGroup, hm]
    simp only [hlist, State.armGroup, foldl_armWatch _ (nodup_watchesOf s m), htest]
    rfl
  · obtain ⟨m, hm, hbit⟩ := maskOf_call h.1 (by decide)
    have hiff (i : Fin 32) : changes i = true ↔ i ∈ s.watchesOf m ∧ s.disarms i = true := by
      rw [hchanges i, mem_watchesOf]
      constructor
      · rintro ⟨w, hw, hgroup, hstate⟩
        exact ⟨⟨w, hw, (hbit _).trans hgroup⟩, by simp [disarms_some hw, hstate]⟩
      · rintro ⟨⟨w, hw, hgroup⟩, hstate⟩
        exact ⟨w, hw, (hbit _).symm.trans hgroup, by simpa [disarms_some hw] using hstate⟩
    have hlist : s.disarmable m = (List.finRange 32).filter changes := filter_watchesOf hiff
    have htest : (fun i => decide (i ∈ s.watchesOf m) && s.disarms i) = changes := by
      funext i
      rw [Bool.eq_iff_iff, Bool.and_eq_true, decide_eq_true_eq, hiff i]
    have hgone : (fun i => decide (i ∈ s.watchesOf m) && isFired s.watches[i]) =
        fun i => changes i && isFired s.watches[i] := by
      funext i
      rw [Bool.eq_iff_iff, Bool.and_eq_true, Bool.and_eq_true, hiff i, decide_eq_true_eq]
      constructor
      · rintro ⟨hmem, hfired⟩
        obtain ⟨w, hw, hs⟩ := isFired_iff.1 hfired
        exact ⟨⟨hmem, by simp [disarms_some hw, hs]⟩, hfired⟩
      · exact fun h => ⟨h.1.1, h.2⟩
    refine congrArg Host.Outcome.next (State.control_answered h (by decide) (by decide) rfl ?_ ⟨rfl, rfl⟩ rfl)
    rw [execRequest, doDisarmGroup, hm]
    simp only [hlist, State.disarmGroup, foldl_disarmWatch _ (nodup_watchesOf s m), htest, hgone]
    rfl

/-! ### GET WATCH -/

/-- The lowest context that refers to a watch (R43). -/
theorem contextOf_eq_some {c : Context} {l : Fin 4} (hc : s.contexts[l] = some c) (href : c.watchRef = some i)
    (hlow : ∀ m : Fin 4, m < l → ∀ d, s.contexts[m] = some d → d.watchRef ≠ some i) : s.contextOf i = some l := by
  refine find?_finRange (by simp [hc, href]) fun m hm => ?_
  cases hd : s.contexts[m] with
  | none => rfl
  | some d => simpa using hlow m hm d hd

theorem orphanFree_iff : s.orphanFree i = true ↔
    ∀ (l : Fin 4) (c : Context), s.contexts[l] = some c → c.openingWatch = i → c.watchRef = some i := by
  rw [State.orphanFree, List.all_eq_true]
  refine forall_congr' fun l => ?_
  cases s.contexts[l] with
  | none => simp
  | some c => simp [Classical.or_iff_not_imp_left]

theorem Runtime.items_eq (x : Runtime) : x.items =
    [BitVec.ofNat 16 x.run, match x.latch with | .unknown => 0 | .low => 1 | .high => 2,
      match x.previous with | none => 0x8000 | some v => v] ++
    (match x.lastFire with | none => [0, 0] | some f => [1, f]) ++
    [match x.firesLeft with | none => 0xFFFF | some n => BitVec.ofNat 16 n,
      1, BitVec.ofNat 16 x.holdoffLeft, 1, BitVec.ofNat 16 x.refusals] := by
  obtain ⟨run, latch, previous, lastFire, firesLeft, holdoffLeft, refusals⟩ := x
  cases latch <;> cases previous <;> cases lastFire <;> cases firesLeft <;> rfl

/-- Settles O4: the report item by item. -/
theorem getWatchReports : Obligations.GetWatchReports := by
  unfold Obligations.GetWatchReports
  refine ⟨fun s r h hi => ?_, fun s r i h hi => ?_⟩
  · exact congrArg Host.Outcome.next (State.observe_reported h rfl (by decide) (withWatch_range h (by decide) hi _))
  have hentry : doGetWatch (callOf r) s = _ := withWatch_index h (by decide) hi _
  refine ⟨fun hw => ?_, fun w x b hw hx hb => ?_⟩
  · refine congrArg Host.Outcome.next (State.observe_reported h rfl (by decide) (hentry.trans ?_))
    rw [hw]
    rfl
  · refine congrArg Host.Outcome.next (State.observe_reported h rfl (by decide) (hentry.trans ?_))
    have hcontext : itemSmallOpt (if w.state = .fired then (s.contextOf i).map Fin.val else none) = [x] := by
      obtain ⟨hs, rfl⟩ | ⟨hs, l, c, hc, href, hlow, rfl⟩ := hx
      · rw [if_neg hs]
        rfl
      · rw [if_pos hs, contextOf_eq_some hc href hlow]
        rfl
    have hfree : s.orphanFree i = b := by rw [Bool.eq_iff_iff, orphanFree_iff, hb]
    have hflag : ([flagWord b] : List Word) = [if b then 1 else 0] := by cases b <;> rfl
    rw [hw]
    simp only [hcontext, hfree, hflag, watchCode_some hw, Runtime.items_eq, itemSmall, List.append_assoc]
    rfl

end Sys2Proof.Machine
end

section
/-! Requests of the history store and the capture engine: SET HISTORY, the profiles, GET CONTEXTS, ABORT CAPTURE, and the end
of a capture with a record (R30, R78 to R81, R93, R94, R99). -/

namespace Sys2Proof.Machine

variable {s t : State} {r : Request} {k : RequestKind}

/-! ### Slot lists -/

theorem slotPair_append (a b : BitVec 8) : slotPair (b ++ a) = [a, b] := by
  simp only [slotPair, List.cons.injEq, and_true]
  exact ⟨BitVec.eq_of_getLsbD_eq fun i hi => by simp [hi], BitVec.eq_of_getLsbD_eq fun i hi => by simp [hi]⟩

theorem flatMap_packSlots : ∀ l : List (BitVec 8), ((packSlots l).flatMap slotPair).take l.length = l
  | [] => rfl
  | [a] => by simp [packSlots, slotPair_append]
  | a :: b :: rest => by
    rw [packSlots, List.flatMap_cons, slotPair_append]
    simp [flatMap_packSlots rest]

theorem paramSlots_packSlots (front : List Word) (l : List (BitVec 8)) (pad : List Word) :
    paramSlots (front ++ (packSlots l ++ pad)) front.length l.length = some l := by
  have hwords : ((front ++ (packSlots l ++ pad)).drop front.length).take ((l.length + 1) / 2) = packSlots l := by
    rw [List.drop_left, ← length_packSlots, List.take_left]
  rw [paramSlots, hwords, if_pos (length_packSlots l), flatMap_packSlots]

/-! ### SET HISTORY -/

theorem number_zero {x : Nat} {rest : List Word} (hbody : r.body = BitVec.ofNat 16 x :: rest) (hx : x < 65536) :
    r.number 0 = x := by
  rw [Request.number, hbody]
  simpa using hx

/-- The list of SET HISTORY as it is written (R30, R190). -/
theorem readHistorySet_written {l : List (BitVec 8)} {pad : List Word}
    (hbody : r.body = BitVec.ofNat 16 l.length :: (packSlots l ++ pad)) (hl : l.length ≤ 32) :
    readHistorySet r.body = if l.Nodup then some l else none := by
  have hcount : paramSmall r.body 0 = some l.length := by
    rw [paramSmall_number r 0 (by simp [hbody]), number_zero hbody (by omega)]
  have hslots : paramSlots r.body 1 l.length = some l := by
    rw [hbody]
    exact paramSlots_packSlots [BitVec.ofNat 16 l.length] l pad
  simp only [readHistorySet, hcount, if_pos hl, hslots]

theorem Profile.lacks_eq_some {p : Profile} {set before after : List (BitVec 8)} {x : BitVec 8} (hpre : 0 < p.pre)
    (hslots : p.slots = before ++ x :: after) (hbefore : ∀ y ∈ before, y ∈ set) (hx : x ∉ set) :
    p.lacks set = some x := by
  rw [Profile.lacks, if_neg (by omega), hslots, List.find?_eq_some_iff_append]
  exact ⟨by simp [hx], before, after, rfl, fun y hy => by simp [hbefore y hy]⟩

/-- Settles O9: the walk over the profiles finds the lowest one that a list would break (R30). -/
theorem setHistoryReplaces : Obligations.SetHistoryReplaces := by
  unfold Obligations.SetHistoryReplaces
  refine ⟨fun s r h hbad => ?_, fun s r l pad h hbody hl hnodup => ?_⟩
  · refine congrArg Host.Outcome.next (State.control_refused h (by decide) (by decide) rfl ?_)
    have hread : readHistorySet (callOf r).body = none := by
      obtain hbad | ⟨l, pad, hbody, hl, hnodup⟩ := hbad
      · have hcount : paramSmall (callOf r).body 0 = some (r.number 0) := State.admits_paramSmall h.1 (by decide)
        simp only [readHistorySet, hcount, if_neg (by omega : ¬ r.number 0 ≤ 32)]
      · exact (readHistorySet_written hbody hl).trans (if_neg hnodup)
    rw [execRequest, doSetHistory, hread]
    rfl
  · have hread : readHistorySet (callOf r).body = some l := (readHistorySet_written hbody hl).trans (if_pos hnodup)
    refine ⟨fun hall => ?_, fun i p before after x hp hpre hslots hbefore hx hlow => ?_⟩
    · refine congrArg Host.Outcome.next (State.control_answered h (by decide) (by decide) rfl ?_ ⟨rfl, rfl⟩ rfl)
      have hnone : s.historyConflict l = none := State.historyConflict_eq_none_iff.2 fun i p hp =>
        Profile.lacks_eq_none_iff.2 (hall i p hp)
      rw [execRequest, doSetHistory, hread]
      simp only [hnone]
      rfl
    · refine congrArg Host.Outcome.next (State.control_refused h (by decide) (by decide) rfl ?_)
      have hconflict : s.historyConflict l = some (i, x) := by
        refine findSome?_finRange (i := i) ?_ fun j hj => ?_
        · simp only [State.profileLacks, hp, Profile.lacks_eq_some hpre hslots hbefore hx, Option.map_some]
        · rw [State.profileLacks]
          cases hq : s.profiles[j] with
          | none => rfl
          | some q => simp only [Profile.lacks_eq_none_iff.2 (hlow j q hj hq), Option.map_none]
      rw [execRequest, doSetHistory, hread]
      simp only [hconflict]
      rfl

/-! ### Profiles -/

theorem withProfile_index {i : Fin 8} (h : s.admits r k) (hk : 4 ≤ k.fixedReply) (hi : r.number 0 = i.val)
    (f : Fin 8 → Reply × State) : withProfile (callOf r) s f = f i := by
  have hread : paramSmall (callOf r).body 0 = some (r.number 0) := State.admits_paramSmall h hk
  rw [withProfile, hread, Option.bind_some, indexBelow_eq_some i hi]

theorem withProfile_range (h : s.admits r k) (hk : 4 ≤ k.fixedReply) (hi : 7 < r.number 0)
    (f : Fin 8 → Reply × State) : withProfile (callOf r) s f = (.other .range [], s) := by
  have hread : paramSmall (callOf r).body 0 = some (r.number 0) := State.admits_paramSmall h hk
  rw [withProfile, hread, Option.bind_some, indexBelow_eq_none hi]

theorem profileHolder_eq_some {i : Fin 8} {j : Fin 32} {w : Watch} (hw : s.watches[j] = some w)
    (hname : w.contents.profile = some i) (hholds : w.state.holds = true)
    (hlow : ∀ (m : Fin 32) (v : Watch), m < j → s.watches[m] = some v → v.contents.profile = some i →
      v.state.holds = false) : s.profileHolder i = some j := by
  refine find?_finRange (by simp [hw, Watch.names, hname, hholds]) fun m hm => ?_
  cases hv : s.watches[m] with
  | none => rfl
  | some v =>
    by_cases hvname : v.contents.profile = some i
    · simp [hlow m v hm hv hvname]
    · simp [Watch.names, hvname]

/-- Settles O10: each case of R78 to R80 is one branch of the entry. -/
theorem profilesLoadAndClear : Obligations.ProfilesLoadAndClear := by
  unfold Obligations.ProfilesLoadAndClear
  refine ⟨fun s r i p h hread => ?_, fun s r n h hread => ?_, fun s r h => ⟨fun hi => ?_, fun i hi => ?_⟩⟩
  · have hread : readLoadProfile (callOf r).body = .ok (i, p) := hread
    refine ⟨fun hslots => ?_, fun before after x hpre hslots hbefore hx => ?_⟩
    · refine congrArg Host.Outcome.next (State.control_answered h (by decide) (by decide) rfl ?_ ⟨rfl, rfl⟩ rfl)
      have hnone : p.lacks s.receiver.historySet = none := Profile.lacks_eq_none_iff.2 fun hpre =>
        hslots.resolve_left (by omega)
      rw [execRequest, doLoadProfile, hread]
      simp only [hnone]
      rfl
    · refine congrArg Host.Outcome.next (State.control_refused h (by decide) (by decide) rfl ?_)
      rw [execRequest, doLoadProfile, hread]
      simp only [Profile.lacks_eq_some hpre hslots hbefore hx]
      rfl
  · refine congrArg Host.Outcome.next (State.control_refused h (by decide) (by decide) rfl ?_)
    have hread : readLoadProfile (callOf r).body = .error n := hread
    rw [execRequest, doLoadProfile, hread]
    rfl
  · exact congrArg Host.Outcome.next (State.control_refused h (by decide) (by decide) rfl
      (withProfile_range h.1 (by decide) hi _))
  · have hentry : doClearProfile (callOf r) s = _ := withProfile_index h.1 (by decide) hi _
    refine ⟨fun hp => ?_, fun p hp => ⟨fun hfree => ?_, fun j w hw hname hholds hlow => ?_⟩⟩
    · refine congrArg Host.Outcome.next (State.control_refused h (by decide) (by decide) rfl (hentry.trans ?_))
      simp only [hp]
    · refine congrArg Host.Outcome.next (State.control_answered h (by decide) (by decide) rfl (hentry.trans ?_)
        ⟨rfl, rfl⟩ rfl)
      have hnone : s.profileHolder i = none := State.profileHolder_eq_none_iff.2 fun j w hw hname => by
        obtain hs | hs := hfree j w hw hname <;> rw [hs] <;> rfl
      simp only [hp, hnone]
      rfl
    · refine congrArg Host.Outcome.next (State.control_refused h (by decide) (by decide) rfl (hentry.trans ?_))
      simp only [hp, profileHolder_eq_some hw hname hholds hlow, watchCode_some hw]
      rfl

/-! ### GET PROFILE and GET CONTEXTS -/

theorem watchesNaming_eq (s : State) (i : Fin 8) : s.watchesNaming i =
    (List.finRange 32).countP fun j => (s.watches[j]).any fun w => w.contents.profile == some i :=
  List.countP_congr fun j _ => by cases s.watches[j] <;> simp [Watch.names]

theorem contextsFrom_eq (s : State) (i : Fin 8) : s.contextsFrom i =
    (List.finRange 4).countP fun j => (s.contexts[j]).any fun c => c.profileIndex == i :=
  List.countP_congr fun j _ => by cases s.contexts[j] <;> simp

theorem flatMap_finRange_four {β : Type} (f : Fin 4 → List β) :
    (List.finRange 4).flatMap f = f 0 ++ f 1 ++ f 2 ++ f 3 := by
  rw [(by decide : List.finRange 4 = [0, 1, 2, 3])]
  simp

/-- Settles O11: the reports item by item (R81, R99). -/
theorem getProfileAndContextsReport : Obligations.GetProfileAndContextsReport := by
  unfold Obligations.GetProfileAndContextsReport
  refine ⟨fun s r h => ⟨fun hi => ?_, fun i hi => ?_⟩, fun s r h => ?_⟩
  · exact congrArg Host.Outcome.next (State.observe_reported h rfl (by decide) (withProfile_range h (by decide) hi _))
  · have hentry : doGetProfile (callOf r) s = _ := withProfile_index h (by decide) hi _
    refine ⟨fun hp => ?_, fun p hp => ?_⟩
    · refine congrArg Host.Outcome.next (State.observe_reported h rfl (by decide) (hentry.trans ?_))
      simp only [hp]
    · refine congrArg Host.Outcome.next (State.observe_reported h rfl (by decide) (hentry.trans ?_))
      simp only [hp, watchesNaming_eq, contextsFrom_eq, Profile.rowSize, itemSmall, List.append_assoc]
      rfl
  · intro small sweep shown
    refine congrArg Host.Outcome.next (State.observe_reported h rfl (by decide) ?_)
    have hshown (o : Option Context) : contextItems o = shown o := by
      cases o with
      | none => rfl
      | some c =>
        obtain ⟨watchRef, openingWatch, profileIndex, snapshot, segment, sequence, trigger, pre, post, gap, nextDue,
          used⟩ := c
        cases watchRef <;> cases trigger <;> cases nextDue <;> rfl
    have hall : (List.finRange 4).flatMap (fun j => contextItems s.contexts[j]) = shown s.contexts[0] ++
        shown s.contexts[1] ++ shown s.contexts[2] ++ shown s.contexts[3] := by
      rw [flatMap_finRange_four]
      simp only [hshown]
      rfl
    rw [execRequest, doGetContexts, hall]

/-! ### The end of a capture -/

theorem endCapture_keeps (s : State) (j : Fin 4) (reason : EndReason) : Keeps s (s.endCapture j reason) := by
  rw [State.endCapture_frame]
  exact ⟨rfl, rfl⟩

/-- Settles O12: the end of a capture as one change of the state, and ABORT CAPTURE by the context's state. -/
theorem capturesEnd : Obligations.CapturesEnd := by
  unfold Obligations.CapturesEnd
  refine ⟨fun s r h => ⟨fun hi => ?_, fun j hi => ?_⟩, fun s j c reason hc => ?_⟩
  · refine congrArg Host.Outcome.next (State.control_refused h (by decide) (by decide) rfl ?_)
    have hread : paramSmall (callOf r).body 0 = some (r.number 0) := State.admits_paramSmall h.1 (by decide)
    rw [execRequest, doAbortCapture, hread, Option.bind_some, indexBelow_eq_none hi]
  · have hread : (paramSmall (callOf r).body 0).bind (indexBelow 4) = some j := by
      have hread : paramSmall (callOf r).body 0 = some (r.number 0) := State.admits_paramSmall h.1 (by decide)
      rw [hread, Option.bind_some, indexBelow_eq_some j hi]
    refine ⟨fun hc => ?_, fun c hc => ?_⟩
    · refine congrArg Host.Outcome.next (State.control_refused h (by decide) (by decide) rfl ?_)
      rw [execRequest, doAbortCapture, hread]
      simp only [hc]
      rfl
    · refine congrArg Host.Outcome.next (State.control_answered h (by decide) (by decide) rfl ?_
        (endCapture_keeps s j .aborted) (congrArg Session.holder (State.endCapture_session j .aborted)))
      rw [execRequest, doAbortCapture, hread]
      simp only [hc]
      rfl
  · intro ended told
    have hended : s.recordEnded c reason = ended := rfl
    have htold : s.endNotified c reason = told := by
      rw [State.endNotified, hended]
      exact if_congr (by simp) rfl rfl
    rw [State.endCapture_active hc, htold]
    cases c.watchRef <;> rfl

end Sys2Proof.Machine
end

section
/-! Requests of the notice unit, the parameters and the counters: ACK NOTICES, GET PARAM, SET PARAM, READ COUNTERS (R135, R179,
R180, R183). -/

namespace Sys2Proof.Machine

variable {s t : State} {r : Request} {k : RequestKind}

/-! ### Words of a body -/

theorem paramWord_number {n : Nat} (hn : n < r.body.length) :
    ∃ w : Word, paramWord r.body n = some w ∧ r.number n = w.toNat :=
  ⟨r.body[n], List.getElem?_eq_getElem hn, by
    rw [Request.number, List.getD_eq_getElem?_getD, List.getElem?_eq_getElem hn, Option.getD_some]⟩

theorem paramYesNo_number {n : Nat} (hn : n < r.body.length) : paramYesNo r.body n =
    if r.number n % 256 = 0 then some false else if r.number n % 256 = 1 then some true else none := by
  obtain ⟨w, hw, hnum⟩ := paramWord_number hn
  have henum : paramEnum r.body n = some (r.number n % 256) := by rw [paramEnum, hw, Option.map_some, hnum]
  rw [paramYesNo, henum]
  split
  · next heq => rw [if_pos (Option.some.inj heq)]
  · next heq => rw [if_neg (by have := Option.some.inj heq; omega), if_pos (Option.some.inj heq)]
  · next h0 h1 => rw [if_neg fun hc => h0 (congrArg some hc), if_neg fun hc => h1 (congrArg some hc)]

theorem State.admits_lt_length (h : s.admits r k) {n : Nat} (hn : n + 4 ≤ k.fixedReply) : n < r.body.length := by
  have hlong := State.admits_length h
  omega

theorem State.admits_paramWord (h : s.admits r k) {n : Nat} (hn : n + 4 ≤ k.fixedReply) :
    ∃ w : Word, paramWord r.body n = some w ∧ r.number n = w.toNat :=
  paramWord_number (State.admits_lt_length h hn)

theorem State.admits_paramYesNo (h : s.admits r k) {n : Nat} (hn : n + 4 ≤ k.fixedReply) :
    paramYesNo r.body n =
      if r.number n % 256 = 0 then some false else if r.number n % 256 = 1 then some true else none :=
  paramYesNo_number (State.admits_lt_length h hn)

theorem State.admits_paramFull (h : s.admits r k) {n : Nat} (hn : n + 5 ≤ k.fixedReply) (hpresent : r.number n = 1) :
    paramFull r.body n = some (r.number (n + 1)) := by
  obtain ⟨w, hw, hnum⟩ := State.admits_paramWord h (n := n) (by omega)
  obtain ⟨v, hv, hval⟩ := State.admits_paramWord h (n := n + 1) (by omega)
  have hone : w = 1 := BitVec.eq_of_toNat_eq (hnum.symm.trans hpresent)
  rw [paramFull, hw, hv, hval]
  exact if_pos hone

/-! ### ACK NOTICES -/

theorem bears_eq (x : BitVec 8) : (fun n : Notice => n.sent.any fun y => y.number == x) = Notice.bears x := by
  funext n
  rw [Notice.bears]
  cases n.sent <;> rfl

theorem sentCount_eq (q : List Notice) : sentCount q = (q.filter fun n => n.sent.isSome).length :=
  List.countP_eq_length_filter

theorem foldl_ackOne (l : List (BitVec 8)) (q : List Notice) :
    l.foldl ackOne q = l.foldl (fun q x => q.eraseP fun n => n.sent.any fun y => y.number == x) q := by
  simp only [bears_eq]
  rfl

theorem readAck_written {numbers : List (BitVec 8)} {pad : List Word}
    (hbody : r.body = BitVec.ofNat 16 numbers.length :: (numbers.map (BitVec.setWidth 16) ++ pad))
    (hcount : 1 ≤ numbers.length ∧ numbers.length ≤ 8) : readAck r.body = some numbers := by
  have hzero : paramSmall r.body 0 = some numbers.length := by
    rw [paramSmall_number r 0 (by simp [hbody]), number_zero hbody (by omega)]
  have hwords : paramWords r.body 1 numbers.length = some (numbers.map (BitVec.setWidth 16)) := by
    have htake : (r.body.drop 1).take numbers.length = numbers.map (BitVec.setWidth 16) := by
      rw [hbody, List.drop_one, List.tail_cons]
      exact List.take_left' (by simp)
    rw [paramWords, htake, if_pos (by simp)]
  have hsmall : ((numbers.map (BitVec.setWidth 16)).all fun w => decide (w.toNat ≤ 255)) = true := by
    simp only [List.all_map, List.all_eq_true, Function.comp_apply, decide_eq_true_eq]
    intro x _
    have hx := x.isLt
    rw [BitVec.toNat_setWidth]
    exact (Nat.mod_le _ _).trans (by omega)
  have hback : (numbers.map (BitVec.setWidth 16)).map (BitVec.setWidth 8) = numbers := by
    rw [List.map_map]
    refine List.map_id'' (fun x => ?_) numbers
    exact BitVec.setWidth_setWidth_of_le x (by decide)
  simp only [readAck, hzero, if_pos hcount, hwords, hsmall, if_true, hback]

theorem readAck_refused (hlen : 0 < r.body.length) (hbad : r.number 0 = 0 ∨ 8 < r.number 0 ∨ r.body.length ≤ r.number 0 ∨
    ∃ k, 1 ≤ k ∧ k ≤ r.number 0 ∧ 255 < r.number k) : readAck r.body = none := by
  have hzero : paramSmall r.body 0 = some (r.number 0) := paramSmall_number r 0 hlen
  rw [readAck, hzero]
  dsimp only
  split
  · next hcount =>
    rw [paramWords]
    by_cases hlong : r.body.length ≤ r.number 0
    · rw [if_neg (by simp; omega)]
    · rw [if_pos (by simp; omega)]
      refine if_neg fun hall => ?_
      obtain hbad | hbad | hbad | ⟨k, hk1, hk2, hbig⟩ := hbad
      · omega
      · omega
      · exact hlong hbad
      · have hmem : r.body.getD k 0 ∈ (r.body.drop 1).take (r.number 0) := by
          rw [List.getD_eq_getElem?_getD, List.getElem?_eq_getElem (by omega), Option.getD_some]
          refine List.mem_iff_getElem.2 ⟨k - 1, by simp; omega, ?_⟩
          simp only [List.getElem_take, List.getElem_drop]
          congr 1
          omega
        have hle := List.all_eq_true.1 hall _ hmem
        exact absurd (of_decide_eq_true hle) (by rw [Request.number] at hbig; omega)
  · rfl

/-- Settles O31: the numbers are read back, and each removes the entry that bears it (R135). -/
theorem ackRemovesSent : Obligations.AckRemovesSent := by
  unfold Obligations.AckRemovesSent
  intro s r h hsink
  have hclass : s.classOk .ackNotices (callOf r) = true := by
    rw [State.classOk]
    exact beq_iff_eq.2 hsink
  refine ⟨fun numbers pad queue hbody h1 h8 hqueue => ?_, fun hbad => ?_⟩
  · refine congrArg Host.Outcome.next (State.observe_answered h rfl hclass ?_ ⟨rfl, rfl⟩)
    have hread : readAck (callOf r).body = some numbers := readAck_written hbody ⟨h1, h8⟩
    rw [execRequest, doAckNotices, hread]
    simp only [foldl_ackOne, ← hqueue, sentCount_eq]
    rfl
  · have hlen : 0 < r.body.length := by
      have hlong := State.admits_length h
      have hfixed : RequestKind.ackNotices.fixedReply = 8 := rfl
      omega
    have hread : readAck (callOf r).body = none := readAck_refused hlen hbad
    refine congrArg Host.Outcome.next (State.observe_answered h rfl hclass ?_ (.refl s))
    rw [execRequest, doAckNotices, hread]

/-! ### Parameters -/

theorem paramOf_code (x : Param) : paramOf x.code = some x := by cases x <;> rfl

theorem Param.code_le (x : Param) : x.code ≤ 6 := by cases x <;> decide

theorem paramOf_none {n : Nat} (h : 6 < n) : paramOf n = none := by
  rw [paramOf, List.find?_eq_none]
  intro x _ hx
  have hcode := x.code_le
  have hn : x.code = n := by simpa using hx
  omega

theorem readSetParam_value (h : s.admits r .setParam) {x : Param} {v : Nat} (hx : r.number 0 = x.code)
    (hv : if x.isFull then r.number 1 = 1 ∧ r.number 2 = v else r.number 1 = v) : readSetParam r.body =
      if x.range.1 ≤ v ∧ v ≤ x.range.2 then .ok (x, v) else .error 2 := by
  have hvalue : x.readValue r.body = some v := by
    rw [Param.readValue]
    cases hfull : x.isFull with
    | true =>
      rw [hfull] at hv
      rw [if_pos rfl, State.admits_paramFull h (by decide) hv.1, hv.2]
    | false =>
      rw [hfull] at hv
      rw [if_neg (by decide), State.admits_paramSmall h (by decide)]
      exact congrArg some hv
  have hid : (paramSmall r.body 0).bind paramOf = some x := by
    rw [State.admits_paramSmall h (by decide), Option.bind_some, hx, paramOf_code]
  rw [readSetParam, hid]
  change (needThat 2 (x.readValue r.body) _ >>= fun v => pure (x, v)) = _
  rw [hvalue, needThat]
  simp only [decide_eq_true_eq]
  split <;> rfl

/-- Settles O39: identifiers and values are read as they are written, and the owner acts on the change (R178 to R180). -/
theorem paramsReadAndWritten : Obligations.ParamsReadAndWritten := by
  unfold Obligations.ParamsReadAndWritten
  intro s r full item shown
  have hfull (x : Param) : full x = x.isFull := by cases x <;> rfl
  have hitem (x : Param) (v : Nat) : x.item v = item x v := by cases x <;> rfl
  have hshown (x : Param) : s.paramItems x = shown x := congrArg (BitVec.ofNat 16 x.code :: ·) (hitem x _)
  refine ⟨fun h => ⟨fun x hx => ?_, fun hall => ?_, fun hbig hn => ?_⟩, fun h => ⟨fun hbig => ?_, ?_⟩⟩
  · have hread : paramSmall (callOf r).body 0 = some x.code := by
      rw [← hx]
      exact State.admits_paramSmall h (by decide)
    have hcode : x.code ≠ absentNumber := by cases x <;> decide
    refine congrArg Host.Outcome.next (State.observe_reported h rfl (by decide) ?_)
    rw [execRequest, doGetParam, hread]
    simp only [if_neg hcode, paramOf_code, hshown]
  · have hread : paramSmall (callOf r).body 0 = some absentNumber :=
      (State.admits_paramSmall h (by decide)).trans (congrArg some hall)
    refine congrArg Host.Outcome.next (State.observe_reported h rfl (by decide) ?_)
    have hflat : Param.all.flatMap s.paramItems = shown .noticeSink ++ shown .noticeResend ++ shown .noticeLimit ++
        shown .leaseTime ++ shown .eventDelay ++ shown .ringLow ++ shown .takeoverOrigin := by
      simp only [Param.all, List.flatMap_cons, List.flatMap_nil, hshown, List.append_nil, List.append_assoc]
    rw [execRequest, doGetParam, hread]
    simp only [if_true, hflat]
  · have hread : paramSmall (callOf r).body 0 = some (r.number 0) := State.admits_paramSmall h (by decide)
    refine congrArg Host.Outcome.next (State.observe_reported h rfl (by decide) ?_)
    rw [execRequest, doGetParam, hread]
    simp only [absentNumber, if_neg hn, paramOf_none hbig]
  · have hread : readSetParam (callOf r).body = .error 1 := by
      have hid : (paramSmall (callOf r).body 0).bind paramOf = none := by
        have hzero : paramSmall (callOf r).body 0 = some (r.number 0) := State.admits_paramSmall h.1 (by decide)
        rw [hzero, Option.bind_some, paramOf_none hbig]
      rw [readSetParam, hid]
      rfl
    refine congrArg Host.Outcome.next (State.control_refused h (by decide) (by decide) rfl ?_)
    rw [execRequest, doSetParam, hread]
    rfl
  · intro x v hx hv reply t
    have hread : readSetParam (callOf r).body = if x.range.1 ≤ v ∧ v ≤ x.range.2 then .ok (x, v) else .error 2 :=
      readSetParam_value h.1 hx (by rwa [hfull] at hv)
    refine ⟨fun hout => ?_, fun hlo hhi => ?_⟩
    · refine congrArg Host.Outcome.next (State.control_refused h (by decide) (by decide) rfl ?_)
      rw [execRequest, doSetParam, hread, if_neg (by omega)]
      rfl
    have hentry : execRequest .setParam (callOf r) s = (reply, s.writeParam x v) := by
      rw [execRequest, doSetParam, hread, if_pos ⟨hlo, hhi⟩]
      simp only [hitem]
      rfl
    have hwritten {u : State} (hu : s.writeParam x v = u) (hk : Keeps s u) (hh : u.session.holder = s.session.holder) :
        exec (.setParam r) s = .next (s.controlled u r .setParam reply) :=
      congrArg Host.Outcome.next (State.control_answered h (by decide) (by decide) rfl (hu ▸ hentry) hk hh)
    refine ⟨fun hlow => ?_, fun hsink hne => ?_, fun hlow hsink => ?_⟩
    · subst hlow
      exact hwritten rfl ⟨State.ringLowTest_strap _, by rw [State.ringLowTest_port]⟩ (by rw [State.ringLowTest_session])
    · subst hsink
      exact hwritten (if_neg hne) ⟨rfl, rfl⟩ rfl
    · refine hwritten ?_ ⟨rfl, rfl⟩ rfl
      cases x with
      | ringLow => exact absurd rfl hlow
      | noticeSink => exact if_pos (hsink rfl)
      | _ => rfl

/-! ### Counters -/

theorem toList_eq_map_finRange {α : Type} {n : Nat} (v : Vector α n) : v.toList = (List.finRange n).map fun i => v[i] :=
  List.ext_getElem (by simp) fun i h₁ h₂ => by simp

/-- Settles O41: the report in the order of R182, and the clear option (R182, R183). -/
theorem countersReadAndCleared : Obligations.CountersReadAndCleared := by
  unfold Obligations.CountersReadAndCleared
  refine ⟨by decide, fun c d => ?_, fun s r => ?_⟩
  · rw [satAdd, BitVec.toNat_ofNat]
    omega
  intro values
  have hvalues : s.counterItems = values := by
    rw [State.counterItems, toList_eq_map_finRange, List.flatMap_map]
    rfl
  have hclass (h : s.admits r .readCounters) (hn : r.number 0 % 256 ≠ 0) :
      RequestKind.readCounters.isControl r.body = true := by
    rw [RequestKind.isControl, State.admits_paramYesNo h (by decide), if_neg hn]
    split <;> rfl
  refine ⟨fun h hno => ?_, fun h => ⟨fun hyes => ?_, fun hbad => ?_⟩⟩
  · have hread : paramYesNo r.body 0 = some false := (State.admits_paramYesNo h (by decide)).trans (if_pos hno)
    refine congrArg Host.Outcome.next (State.observe_reported h ?_ (by decide) ?_)
    · rw [RequestKind.isControl, hread]
      rfl
    · rw [execRequest, doReadCounters, show paramYesNo (callOf r).body 0 = some false from hread]
      simp only [hvalues]
      rfl
  · have hread : paramYesNo r.body 0 = some true := by
      rw [State.admits_paramYesNo h.1 (by decide), if_neg (by omega), if_pos hyes]
    refine congrArg Host.Outcome.next (State.control_answered h (by decide) (by decide) (hclass h.1 (by omega)) ?_
      ⟨rfl, rfl⟩ rfl)
    rw [execRequest, doReadCounters, show paramYesNo (callOf r).body 0 = some true from hread]
    simp only [hvalues]
    rfl
  · have hread : paramYesNo r.body 0 = none := by
      rw [State.admits_paramYesNo h.1 (by decide), if_neg (by omega), if_neg (by omega)]
    refine congrArg Host.Outcome.next (State.control_refused h (by decide) (by decide) (hclass h.1 (by omega)) ?_)
    rw [execRequest, doReadCounters, show paramYesNo (callOf r).body 0 = none from hread]

end Sys2Proof.Machine
end

section
/-! The request handler: requests that checks 1 to 3 refuse, replays, and the lease (R160 to R171). -/

namespace Sys2Proof.Machine

variable {s t : State} {r : Request} {k : RequestKind} {a : Reply}

/-! ### One law for every request that is no replay -/

theorem exec_requestOf {c : Instr} (h : requestOf c = some (r, k)) : exec c s = .next (s.requestArrives r k.code) := by
  cases c <;> simp only [requestOf, Option.some.injEq, Prod.mk.injEq, reduceCtorEq] at h <;>
    · obtain ⟨rfl, rfl⟩ := h
      rfl

theorem restartLease_seat (s : State) (e : Seat) (control : Bool) (o : Addr) :
    (s.seat e).restartLease control o = (s.restartLease control o).seat e := by
  simp only [State.restartLease, show (s.seat e).session.holder = s.session.holder from rfl]
  split <;> rfl

theorem denied_seat (k : RequestKind) (c : Call) : Seated (State.denied · k c) := by
  intro s e
  simp only [State.denied, show (s.seat e).session.holder = s.session.holder from rfl, draw_seat]
  split <;> rfl

theorem dispose_seat (code : BitVec 8) (c : Call) : Seated (State.dispose · code c) := by
  intro s e
  simp only [State.dispose]
  cases requestKindOf code with
  | none => rfl
  | some k =>
    dsimp only
    simp only [execRequest_seat, denied_seat k c _ e, show (s.seat e).classOk k c = s.classOk k c by cases k <;> rfl,
      show (s.seat e).session.holder = s.session.holder from rfl]
    split
    · exact congrArg (Prod.mk _) (restartLease_seat s e _ _)
    · split <;> exact congrArg (Prod.mk _) (restartLease_seat _ e _ _)

/-- A request that is disposed of with answer `a` and effect `t` (R157 to R163). -/
theorem State.disposed_answered {code : BitVec 8} (h : s.reached r) (hn : s.isNew r)
    (hd : s.dispose code (callOf r) = (a, t)) (hk : Keeps s t) :
    s.requestArrives r code = s.answered t r code a t.session.leaseTimer := by
  have hseat : (s.countValid.touchOrigin r.src).dispose code (callOf r) = (a, t.seat (s.seatFor r)) := by
    rw [State.taken_eq_seat]
    exact (dispose_seat code (callOf r) s _).trans (congrArg (fun x => (x.1, x.2.seat (s.seatFor r))) hd)
  have hkept := seat_of_keeps hk r
  rw [State.request_disposed s _ r code a h hn hseat hk.strap (by rw [hkept]) (by rw [hkept]), hkept]
  simp only [State.answered]
  rw [hk.port]
  rfl

/-- A request of a known kind that fits and passes its class check (R162, R166). -/
theorem State.executed_answered (h : s.admits r k) (hclass : s.classOk k (callOf r) = true)
    (he : execRequest k (callOf r) s = (a, t)) (hk : Keeps s t)
    (hl : t.restartLease (s.session.holder == some r.src && k.isControl r.body) r.src = t) :
    s.requestArrives r k.code = s.observed t r k a := by
  refine State.disposed_answered h.1 h.2.1 ?_ hk
  rw [State.dispose_executes s k (callOf r) h.2.2 hclass, he]
  exact congrArg (Prod.mk a) hl

/-! ### Requests that are refused unexecuted -/

theorem State.restartLease_holder (h : s.session.holder = some r.src) : s.restartLease true r.src = s.loadLease := by
  rw [State.restartLease, h]
  exact if_pos (by simp)

theorem State.leaseItems_eq (s : State) : s.leaseItems = s.leaseWords := by
  rw [State.leaseItems, State.timeRemaining, State.leaseWords]
  cases s.session.holder with
  | none => rfl
  | some h => cases s.session.leaseTimer <;> rfl

/-- The requests that every origin may ask (R164, R183). -/
theorem isControl_eq_false_iff (hlen : 0 < r.body.length) : k.isControl r.body = false ↔
    k ∈ [RequestKind.status, .getParam, .getWatch, .getProfile, .getContexts, .getEventEntry,
      .segmentInfo, .scan, .claim, .ackNotices] ∨ (k = .readCounters ∧ r.number 0 % 256 = 0) := by
  by_cases hk : k = .readCounters
  · subst hk
    rw [RequestKind.isControl, paramYesNo_number hlen]
    split
    · next h0 => simp [h0]
    · next h0 => split <;> simp [h0]
  · cases k <;> simp [RequestKind.isControl] at hk ⊢

/-- Settles O36: what checks 1 to 3 answer, and that no entry runs (R162, R164, R166). -/
theorem refusedUnexecuted : Obligations.RefusedUnexecuted := by
  unfold Obligations.RefusedUnexecuted
  refine ⟨fun s c r k hc h hn => ?_, fun s r code h hn hcode => ?_⟩
  · intro observe
    have hobserve : k.isControl r.body = false ↔ observe := isControl_eq_false_iff (by have := h.2.2.2.1; omega)
    have hanswer {a : Reply} {t : State} (hd : s.dispose k.code (callOf r) = (a, t)) (hk : Keeps s t) :
        exec c s = .next (s.answered t r k.code a t.session.leaseTimer) :=
      (exec_requestOf hc).trans (congrArg Host.Outcome.next (State.disposed_answered h hn hd hk))
    have hquiet (hfree : observe ∨ s.session.holder ≠ some r.src) :
        (s.session.holder == some r.src && k.isControl r.body) = false := by
      obtain hfree | hfree := hfree
      · rw [hobserve.2 hfree, Bool.and_false]
      · rw [beq_eq_false_iff_ne.2 hfree, Bool.false_and]
    refine ⟨fun hroom => ⟨fun hfree => hanswer ?_ (.refl s), fun hcontrol hold => ?_⟩, fun hroom hbad =>
      hanswer ?_ (.refl s)⟩
    · rw [State.dispose_room s k (callOf r) hroom]
      exact congrArg (fun b => (Reply.other .room [], s.restartLease b r.src)) (hquiet hfree)
    · have hcontrol : k.isControl r.body = true := by
        rw [← Bool.not_eq_false, hobserve]
        exact hcontrol
      have hflag : (s.session.holder == some r.src && k.isControl r.body) = true := by
        rw [hold, hcontrol, beq_self_eq_true]
        rfl
      refine hanswer (t := s.loadLease) ?_ ⟨rfl, rfl⟩
      rw [State.dispose_room s k (callOf r) hroom, ← State.restartLease_holder hold]
      exact congrArg (fun b => (Reply.other .room [], s.restartLease b r.src)) hflag
    · have hflag : (s.session.holder == some r.src && k.isControl r.body) = false := by
        obtain ⟨_, _, hold⟩ | ⟨rfl, _⟩ | ⟨rfl, _, hold⟩ := hbad
        · exact hquiet (.inr hold)
        · exact hquiet (.inl (hobserve.1 rfl))
        · exact hquiet (.inr hold)
      have hclass : s.classOk k (callOf r) = false := by
        obtain ⟨hcontrol, htake, hold⟩ | ⟨rfl, hsink⟩ | ⟨rfl, htake, _⟩ := hbad
        · have hack : k ≠ .ackNotices := by
            rintro rfl
            exact hcontrol (hobserve.1 rfl)
          have hclass : s.classOk k (callOf r) =
              (!(k.isControl r.body) || s.session.holder == some r.src) := by
            cases k with
            | ackNotices => exact absurd rfl hack
            | takeover => exact absurd rfl htake
            | _ => rfl
          rw [hclass, ← Bool.not_eq_true, beq_eq_false_iff_ne.2 hold]
          simpa using fun hc => hcontrol (hobserve.1 hc)
        · exact beq_eq_false_iff_ne.2 hsink
        · exact beq_eq_false_iff_ne.2 htake
      have hdenied : s.denied k (callOf r) = (.other .denied s.leaseWords, s) := by
        rw [State.denied, if_neg, State.leaseItems_eq]
        rintro ⟨rfl, hold⟩
        obtain ⟨_, htake, _⟩ | ⟨hk, _⟩ | ⟨_, _, hother⟩ := hbad
        · exact htake rfl
        · cases hk
        · exact hother hold
      have hfits : ¬ (callOf r).room < k.fixedReply := Nat.not_lt.2 hroom
      simp only [State.dispose, requestKindOf_code, if_neg hfits, hclass, Bool.false_eq_true, if_false, hdenied]
      exact congrArg (fun b => (Reply.other .denied s.leaseWords, s.restartLease b r.src)) hflag
  · exact congrArg Host.Outcome.next (State.disposed_answered h hn (State.dispose_unknown s code (callOf r) hcode) (.refl s))

/-! ### Replays -/

theorem otherOrigins_present {holder : Option Addr} {o : Addr} {before after : List Origin} {e : Origin}
    (he : e.addr = o) (hbefore : ∀ x ∈ before, x.addr ≠ o) (hafter : ∀ x ∈ after, x.addr ≠ o) :
    otherOrigins holder o (before ++ e :: after) = before ++ after := by
  rw [otherOrigins, if_pos (by simp [he]), List.filter_append, List.filter_cons_of_neg (by simp [he]),
    List.filter_eq_self.2 fun x hx => by simpa using hbefore x hx,
    List.filter_eq_self.2 fun x hx => by simpa using hafter x hx]

theorem otherOrigins_absent {holder : Option Addr} {o : Addr} {l : List Origin} (h : ∀ x ∈ l, x.addr ≠ o) :
    otherOrigins holder o l = if l.length < 4 then l else evictOrigin holder l := by
  rw [otherOrigins, if_neg (by simpa using h)]
  rfl

/-- The least recently used entry that is not the holder's leaves (R160). -/
theorem evictOrigin_eq {holder : Option Addr} {before after : List Origin} {e : Origin} (he : holder ≠ some e.addr)
    (hafter : ∀ x ∈ after, holder = some x.addr) : evictOrigin holder (before ++ e :: after) = before ++ after := by
  have hskip : ∀ x ∈ after.reverse, ¬ (holder != some x.addr) = true := fun x hx => by
    simp [hafter x (List.mem_reverse.1 hx)]
  rw [evictOrigin, List.reverse_append, List.reverse_cons, List.append_assoc, List.eraseP_append_right _ hskip,
    List.singleton_append, List.eraseP_cons_of_pos (by simpa using he)]
  simp

theorem originEntry_present {o : Addr} {before after : List Origin} {e : Origin} (he : e.addr = o)
    (hbefore : ∀ x ∈ before, x.addr ≠ o) : originEntry o (before ++ e :: after) = e := by
  have hfind : (before ++ e :: after).find? (fun x => x.addr == o) = some e :=
    List.find?_eq_some_iff_append.2 ⟨by simp [he], before, after, rfl, fun x hx => by simpa using hbefore x hx⟩
  rw [originEntry, hfind]

theorem fillRoom_replayed (room : Nat) (cached : List Word) : fillRoom room (replayedContent cached) =
    cached.modify 2 (· ||| 0x8000) ++ List.replicate (room - 1 - cached.length) 0x8000 := by
  rw [fillRoom, replayedContent, List.length_modify]
  rfl

/-- Settles O37: the origin's entry is found and moved to the front, and its response leaves again (R160, R161). -/
theorem replayAnswersFromCache : Obligations.ReplayAnswersFromCache := by
  unfold Obligations.ReplayAnswersFromCache
  refine ⟨fun holder o l => ⟨?_, fun habsent => ⟨fun hlt => ?_, ?_⟩⟩, ?_⟩
  · rintro before after e rfl he hbefore hafter
    exact otherOrigins_present he hbefore hafter
  · rw [otherOrigins_absent habsent, if_pos hlt]
  · rintro before after e rfl hlong he hafter
    rw [otherOrigins_absent habsent, if_neg (Nat.not_lt.2 hlong), evictOrigin_eq he hafter]
  intro s c r code before after e cached hc h horigins he hbefore hafter hseq hcached words
  have hexec : exec c s = .next (s.requestArrives r code) := by
    obtain ⟨k, hk, rfl⟩ | rfl := hc
    · exact exec_requestOf hk
    · rfl
  have hentry : originEntry r.src s.session.origins = e := by rw [horigins, originEntry_present he hbefore]
  have hothers : otherOrigins s.session.holder r.src s.session.origins = before ++ after := by
    rw [horigins, otherOrigins_present he hbefore hafter]
  have hreplay : s.countValid.replayOf r.src r.seq = some cached := by
    rw [State.replayOf, show s.countValid.session.origins = s.session.origins from rfl, hentry]
    exact (if_pos hseq).trans hcached
  have hwords : (s.countValid.touchOrigin r.src).replayWords r.src r.seq code r.room cached = words := by
    rw [State.replayWords, fillRoom_replayed]
    rfl
  have htouched : s.countValid.touchOrigin r.src =
      { s.countValid with session := { s.session with origins := e :: (before ++ after) } } := by
    rw [State.touchOrigin]
    exact congrArg (fun l => { s.countValid with session := { s.session with origins := l } })
      (congr (congrArg List.cons hentry) hothers)
  have hserve : s.countValid.serve r.src r.seq code r.room r.body =
      (words, (s.countValid.touchOrigin r.src).bump .replays 1) := by
    rw [State.serve, hreplay]
    simp only [hwords]
  rw [hexec, State.request_served s r code h, hserve, htouched]
  rfl

/-! ### The lease -/

theorem State.restartLease_loaded (h : t.session.leaseTimer = some t.leaseTicks) (control : Bool) (o : Addr) :
    t.restartLease control o = t := by
  rw [State.restartLease]
  split
  · rw [State.loadLease, ← h]
  · rfl

theorem State.giveLease_eq (s : State) (o : Addr) : s.giveLease o = { s with
    session := { s.session with holder := some o, leaseTimer := some s.leaseTicks }
    ring := { s.ring with segs := mapTable (fun _ x => x.map Segment.returned) s.ring.segs } } := rfl

theorem State.clearLease_fields (s : State) : s.clearLease = { s with
    session := { s.session with holder := none, leaseTimer := none }
    ring := { s.ring with segs := mapTable (fun _ x => x.map Segment.returned) s.ring.segs } } := rfl

theorem leaseItems_held {o : Addr} {ticks : Nat} (hh : t.session.holder = some o) (ht : t.session.leaseTimer = some ticks) :
    t.leaseItems = [BitVec.ofNat 16 o.toNat, BitVec.ofNat 16 ((ticks + 99999) / 100000)] := by
  rw [State.leaseItems, State.timeRemaining, hh, ht]
  rfl

theorem doClaim_held {c : Call} (h : s.session.holder = some c.origin) :
    doClaim c s = (.ok s.loadLease.leaseItems, s.loadLease) := by
  rw [doClaim, h]
  exact if_pos rfl

theorem doTakeover_held {c : Call} (h : s.session.holder = some c.origin) :
    doTakeover c s = (.ok (s.loadLease.leaseItems ++ itemAddrOpt (some c.origin)), s.loadLease) := by
  rw [doTakeover, h]
  exact if_pos rfl

/-- Settles O49: CLAIM and TAKEOVER by the present holder (R165, R167, R170). -/
theorem leaseIsGiven : Obligations.LeaseIsGiven := by
  unfold Obligations.LeaseIsGiven
  intro s r c k hc h ticks returned given mine former
  have hgiven : s.giveLease r.src = given := State.giveLease_eq s r.src
  have hmine : given.leaseItems = mine := leaseItems_held rfl rfl
  have hrestart (control : Bool) : given.restartLease control r.src = given := State.restartLease_loaded rfl _ _
  have hanswer {a : Reply} {t : State} (he : execRequest k (callOf r) s = (a, t)) (hk : Keeps s t)
      (hl : t.restartLease (s.session.holder == some r.src && k.isControl r.body) r.src = t) :
      exec c s = .next (s.observed t r k a) := by
    have hexec : exec c s = .next (s.requestArrives r k.code) := by
      obtain ⟨rfl, rfl⟩ | ⟨rfl, rfl, _⟩ := hc <;> rfl
    have hclass : s.classOk k (callOf r) = true := by
      obtain ⟨rfl, rfl⟩ | ⟨rfl, rfl, horigin⟩ := hc
      · rfl
      · exact beq_iff_eq.2 horigin
    rw [hexec, State.executed_answered h hclass he hk hl]
  have hkind : k = .claim ∨ k = .takeover := hc.imp And.right fun hc => hc.2.1
  refine ⟨fun hnone => hanswer ?_ ⟨rfl, rfl⟩ (hrestart _), fun hold => hanswer ?_ ⟨rfl, rfl⟩
    (State.restartLease_loaded rfl _ _), fun o hold hne => ⟨?_, ?_⟩⟩
  · obtain rfl | rfl := hkind
    · simp only [execRequest, doClaim, hnone, callOf, hgiven, hmine]
      rfl
    · simp only [execRequest, doTakeover, hnone, callOf, hgiven, hmine]
      rfl
  · have hitems : s.loadLease.leaseItems = mine := leaseItems_held hold rfl
    obtain rfl | rfl := hkind
    · exact (doClaim_held (c := callOf r) hold).trans (congrArg (fun l => (Reply.ok l, s.loadLease)) hitems)
    · exact (doTakeover_held (c := callOf r) hold).trans
        (congrArg (fun l => (Reply.ok (l ++ itemAddrOpt (some r.src)), s.loadLease)) hitems)
  · rintro rfl
    refine hanswer ?_ (.refl s) ?_
    · simp only [execRequest, doClaim, hold, callOf, if_neg hne, State.leaseItems_eq]
    · rw [hold, beq_eq_false_iff_ne.2 fun hc => hne (Option.some.inj hc)]
      rfl
  · rintro rfl
    refine hanswer (t := given.post .leaseLost o.toNat .address) ?_ ⟨by simp [given], by simp [given]⟩
      (State.restartLease_loaded ?_ _ _)
    · have hitems : (given.post .leaseLost o.toNat .address).leaseItems = mine :=
        leaseItems_held (by simp [given]) (by simp [given])
      simp only [execRequest, doTakeover, hold, callOf, if_neg hne, hgiven, hitems]
      rfl
    · rw [State.post_session, State.leaseTicks, State.post_params]
      rfl

/-- A request that only the holder may make, from another origin (R164). -/
theorem State.request_denied (h : s.admits r k) (hc : k.isControl r.body = true) (ht : k ≠ .takeover)
    (hold : s.session.holder ≠ some r.src) : s.requestArrives r k.code = s.observed s r k (.other .denied s.leaseWords) := by
  refine State.disposed_answered h.1 h.2.1 ?_ (.refl s)
  have hclass : s.classOk k (callOf r) = false := by
    have hclass : s.classOk k (callOf r) = (!(k.isControl r.body) || s.session.holder == some r.src) := by
      cases k with
      | ackNotices => cases hc
      | takeover => exact absurd rfl ht
      | _ => rfl
    rw [hclass, hc, beq_eq_false_iff_ne.2 hold]
    rfl
  have hdenied : s.denied k (callOf r) = (.other .denied s.leaseWords, s) := by
    rw [State.denied, if_neg fun hk => ht hk.1, State.leaseItems_eq]
  have hflag : (s.session.holder == some r.src && k.isControl r.body) = false := by
    rw [beq_eq_false_iff_ne.2 hold, Bool.false_and]
  have hfits : ¬ (callOf r).room < k.fixedReply := Nat.not_lt.2 h.2.2
  simp only [State.dispose, requestKindOf_code, if_neg hfits, hclass, Bool.false_eq_true, if_false, hdenied]
  exact congrArg (fun b => (Reply.other .denied s.leaseWords, s.restartLease b r.src)) hflag

/-- Settles O50: RENEW reports the full lease and restarts the timer (R166, R168). -/
theorem renewRestarts : Obligations.RenewRestarts := by
  unfold Obligations.RenewRestarts
  refine fun s r h => ⟨fun hold => ?_, fun hold => ?_⟩
  · refine congrArg Host.Outcome.next ?_
    have hitems : s.loadLease.leaseItems = [BitVec.ofNat 16 r.src.toNat, BitVec.ofNat 16 s.params.leaseTime] := by
      rw [leaseItems_held (t := s.loadLease) hold rfl, State.leaseTicks]
      have hunit : (s.params.leaseTime * Config.leaseUnitTicks + 99999) / 100000 = s.params.leaseTime := by
        have hunits : Config.leaseUnitTicks = 100000 := rfl
        rw [hunits]
        omega
      rw [hunit]
    have hentry : execRequest .renew (callOf r) s =
        (.ok [BitVec.ofNat 16 r.src.toNat, BitVec.ofNat 16 s.params.leaseTime], s.loadLease) := by
      rw [← hitems]
      rfl
    exact State.executed_answered h (State.classOk_holder s .renew (callOf r) hold (by decide) (by decide)) hentry
      ⟨rfl, rfl⟩ (State.restartLease_loaded rfl _ _)
  · exact congrArg Host.Outcome.next (State.request_denied h rfl (by decide) hold)

/-- Settles O51: YIELD and the run-out of the lease timer (R116, R169, R171). -/
theorem leaseIsGivenUp : Obligations.LeaseIsGivenUp := by
  unfold Obligations.LeaseIsGivenUp
  intro s r o cleared
  have hcleared : s.clearLease = cleared := State.clearLease_fields s
  refine ⟨fun h => ⟨fun hold => ?_, fun hold => ?_⟩, fun hreset hold => ?_⟩
  · have hclass : s.classOk .yield (callOf r) = true := State.classOk_holder s .yield (callOf r) hold (by decide) (by decide)
    have hentry : execRequest .yield (callOf r) s = (.ok [0xFFFF], cleared) :=
      congrArg (Prod.mk (Reply.ok [0xFFFF])) hcleared
    have hgone (control : Bool) : cleared.restartLease control r.src = cleared := if_neg (by simp [cleared])
    exact congrArg Host.Outcome.next (State.executed_answered h hclass hentry ⟨rfl, rfl⟩ (hgone _))
  · exact congrArg Host.Outcome.next (State.request_denied h rfl (by decide) hold)
  · have hexec : exec .leaseExpiry s = .next s.leaseExpires :=
      congrArg Host.Outcome.next (if_neg (by simp [hreset]))
    rw [hexec, State.leaseExpires, hold, hcleared]

end Sys2Proof.Machine
end

section
/-! The ring: allocation and the ring-low test, RELEASE SEGMENT, READ SEGMENT, and the counts of STATUS (R106 to R117, R181). -/

namespace Sys2Proof.Machine

variable {s t : State} {r : Request} {k : RequestKind} {g : Fin 64}

/-! ### Counts of segments -/

theorem countP_indices (ring : Ring) (p : Fin 64 → Bool) :
    ring.indices.countP p = (List.finRange 64).countP fun g => decide (g.val < ring.segCount) && p g := by
  rw [Ring.indices, List.countP_filter]
  simp only [Bool.and_comm]

theorem freeCount_eq (ring : Ring) : ring.freeCount =
    (List.finRange 64).countP fun g => decide (g.val < ring.segCount) && (ring.segs[g]).isNone :=
  countP_indices ring _

theorem stateCount_eq (ring : Ring) (p : SegmentState → Bool) : ring.stateCount p =
    (List.finRange 64).countP fun g => decide (g.val < ring.segCount) && (ring.segs[g]).any fun x => p x.state := by
  rw [Ring.stateCount, countP_indices]
  exact List.countP_congr fun g _ => by cases ring.segs[g] <;> rfl

/-! ### Allocation and the ring-low test -/

/-- The first FREE segment in ring order from the cursor (R108). -/
theorem find?_fromCursor {ring : Ring} {x : Nat} (hcount : ring.segCount ≤ 64) (hx : x < ring.segCount)
    (hg : g.val = (ring.cursor + x) % ring.segCount) (hfree : ring.segs[g] = none)
    (htaken : ∀ (y : Nat) (f : Fin 64), y < x → f.val = (ring.cursor + y) % ring.segCount → (ring.segs[f]).isSome = true) :
    (ring.fromCursor.find? fun g => ring.segs[g].isNone) = some g := by
  have hplace (y : Nat) : (Fin.ofNat 64 ((ring.cursor + y) % ring.segCount)).val = (ring.cursor + y) % ring.segCount :=
    Nat.mod_eq_of_lt (Nat.lt_of_lt_of_le (Nat.mod_lt _ (by omega)) hcount)
  have hfirst : (List.range ring.segCount).find?
      ((fun g : Fin 64 => ring.segs[g].isNone) ∘ fun y => Fin.ofNat 64 ((ring.cursor + y) % ring.segCount)) = some x := by
    rw [List.find?_range_eq_some]
    refine ⟨?_, by simpa using hx, fun y hy => ?_⟩
    · have heq : Fin.ofNat 64 ((ring.cursor + x) % ring.segCount) = g := Fin.ext ((hplace x).trans hg.symm)
      rw [Function.comp_apply, heq, hfree]
      rfl
    · have hsome := htaken y _ hy (hplace y)
      rw [Function.comp_apply]
      rw [← Option.not_isSome, hsome]
      rfl
  rw [Ring.fromCursor, List.find?_map, hfirst]
  exact congrArg some (Fin.ext ((hplace x).trans hg.symm))

theorem find?_fromCursor_none {ring : Ring} (htaken : ∀ g : Fin 64, g.val < ring.segCount → (ring.segs[g]).isSome = true) :
    (ring.fromCursor.find? fun g => ring.segs[g].isNone) = none := by
  rw [List.find?_eq_none]
  intro g hg hnone
  rw [← Option.not_isSome, htaken g (Ring.mem_fromCursor hg)] at hnone
  cases hnone

theorem isFull_iff {ring : Ring} : ring.isFull g = true ↔ ∃ x, ring.segs[g] = some x ∧ x.state = .full := by
  rw [Ring.isFull]
  cases ring.segs[g] <;> simp

theorem isFull_eq_false {ring : Ring} (h : ∀ x, ring.segs[g] = some x → x.state ≠ .full) : ring.isFull g = false := by
  rw [← Bool.not_eq_true, isFull_iff]
  rintro ⟨x, hx, hfull⟩
  exact h x hx hfull

theorem ringLowTest_posts (hlow : s.ring.low = false) (hfree : s.ring.freeCount ≤ s.params.ringLow) :
    s.ringLowTest = { s with ring := { s.ring with low := true } }.post .ringLow s.ring.freeCount .count := by
  rw [State.ringLowTest, if_pos hfree, hlow, State.post_congr s { s with ring := { s.ring with low := true } } _ _ _ rfl rfl,
    State.post_frame]
  rfl

/-- Settles O46: the search from the cursor, the reclaim, and the test on both sides of RING_LOW (R108 to R111). -/
theorem ringAllocatesAndTests : Obligations.RingAllocatesAndTests := by
  unfold Obligations.RingAllocatesAndTests
  refine ⟨fun s j sequence p hcount => ?_, fun s free hfree => ?_⟩
  · intro granted taken notFull
    refine ⟨fun x g hx hg hnone htaken => ?_, fun htaken => ⟨fun before after g x hp hcompleted hx hfull hbefore => ?_,
      fun hnone => ?_⟩⟩
    · rw [State.allocate, find?_fromCursor hcount hx hg hnone htaken]
      rfl
    · have hfind : s.ring.completed.find? (fun g => s.ring.isFull g) = some g := by
        rw [hcompleted, List.find?_eq_some_iff_append]
        exact ⟨isFull_iff.2 ⟨x, hx, hfull⟩, before, after, rfl, fun f hf => by rw [isFull_eq_false (hbefore f hf)]; rfl⟩
      rw [State.allocate, find?_fromCursor_none htaken, hp]
      simp only [hfind]
      have hgrant (t : State) (ht : t.ring.segCount = s.ring.segCount) :
          t.grant g j sequence p.autoRelease = granted t g := by
        rw [State.grant, ht]
        rfl
      exact congrArg (fun t : State => some (g, t)) (hgrant _ (by rw [State.post_ring]; rfl))
    · rw [State.allocate, find?_fromCursor_none htaken]
      dsimp only
      cases hp : p.policy with
      | refuse => rfl
      | overwrite =>
        have hall := hnone.resolve_left (by rw [hp]; decide)
        have hfind : s.ring.completed.find? (fun g => s.ring.isFull g) = none :=
          List.find?_eq_none.2 fun g hg => by rw [isFull_eq_false (hall g hg)]; decide
        rw [hfind]
  · rw [← freeCount_eq] at hfree
    subst hfree
    refine ⟨fun hle hlow => ?_, fun hle hlow => ringLowTest_posts hlow hle, fun hlt => ?_⟩
    · rw [State.ringLowTest, if_pos hle, hlow]
      rfl
    · rw [State.ringLowTest, if_neg (Nat.not_le.2 hlt)]

/-! ### The segment index of a request -/

theorem segmentIndex_eq_some {n : Nat} (hn : n = g.val) (hg : g.val < s.ring.segCount) : s.segmentIndex n = some g := by
  rw [State.segmentIndex, if_pos (hn ▸ hg), indexBelow_eq_some g hn]

theorem segmentIndex_eq_none {n : Nat} (hn : s.ring.segCount ≤ n) : s.segmentIndex n = none := by
  rw [State.segmentIndex, if_neg (Nat.not_lt.2 hn)]

theorem withSegment_index (h : s.admits r k) (hk : 4 ≤ k.fixedReply) (hn : r.number 0 = g.val)
    (hg : g.val < s.ring.segCount) (f : Fin 64 → Reply × State) : withSegment (callOf r) s f = f g := by
  have hread : paramSmall (callOf r).body 0 = some (r.number 0) := State.admits_paramSmall h hk
  rw [withSegment, hread, Option.bind_some, segmentIndex_eq_some hn hg]

theorem withSegment_range (h : s.admits r k) (hk : 4 ≤ k.fixedReply) (hn : s.ring.segCount ≤ r.number 0)
    (f : Fin 64 → Reply × State) : withSegment (callOf r) s f = (.other .range [], s) := by
  have hread : paramSmall (callOf r).body 0 = some (r.number 0) := State.admits_paramSmall h hk
  rw [withSegment, hread, Option.bind_some, segmentIndex_eq_none hn]

/-- The ring-low test leaves the straps, the port and the session (R111). -/
theorem ringLowTest_keeps (hk : Keeps s t) : Keeps s t.ringLowTest :=
  ⟨(State.ringLowTest_strap t).trans hk.strap, by rw [State.ringLowTest_port, ← hk.port]⟩

theorem ringLowTest_segs (s : State) : s.ringLowTest.ring.segs = s.ring.segs :=
  congrArg (fun t => t.ring.segs) s.ringLowTest_frame

/-- Settles O45: RELEASE SEGMENT by the segment's state (R117). -/
theorem releaseSegmentFrees : Obligations.ReleaseSegmentFrees := by
  unfold Obligations.ReleaseSegmentFrees
  intro s r h _
  refine ⟨fun hn => ?_, fun g hn hg => ?_⟩
  · exact congrArg Host.Outcome.next (State.control_refused h (by decide) (by decide) rfl
      (withSegment_range h.1 (by decide) hn _))
  have hentry : doReleaseSegment (callOf r) s = _ := withSegment_index h.1 (by decide) hn hg _
  refine ⟨fun hx => ?_, fun x hx => ⟨fun hfilling => ?_, fun hdone => ?_⟩⟩
  · refine congrArg Host.Outcome.next (State.control_refused h (by decide) (by decide) rfl (hentry.trans ?_))
    simp only [hx]
    rfl
  · refine congrArg Host.Outcome.next (State.control_refused h (by decide) (by decide) rfl (hentry.trans ?_))
    simp only [hx, hfilling, if_true]
    rfl
  · refine congrArg Host.Outcome.next (State.control_answered h (by decide) (by decide) rfl (hentry.trans ?_)
      (ringLowTest_keeps ⟨rfl, rfl⟩) (congrArg Session.holder (State.ringLowTest_session _)))
    simp only [hx, hdone, Bool.false_eq_true, if_false]
    rfl

/-! ### READ SEGMENT -/

theorem State.admits_param32 (h : s.admits r k) {n : Nat} (hn : n + 5 ≤ k.fixedReply) :
    param32 r.body n = some (r.number n + 65536 * r.number (n + 1)) := by
  obtain ⟨lo, hlo, hlow⟩ := State.admits_paramWord h (n := n) (by omega)
  obtain ⟨hi, hhi, hhigh⟩ := State.admits_paramWord h (n := n + 1) (by omega)
  rw [param32, hlo, hhi, hlow, hhigh]

theorem readReadSegment_eq (h : s.admits r .readSegment) : s.readReadSegment r.body =
    if r.number 1 + 65536 * r.number 2 ≤ 131071 ∧ 1 ≤ r.number 3 ∧ r.number 3 ≤ 120 then
      (s.segmentIndex (r.number 0)).map fun g => (g, r.number 1 + 65536 * r.number 2, r.number 3)
    else none := by
  rw [State.readReadSegment, State.admits_paramSmall h (by decide), State.admits_param32 h (by decide),
    State.admits_paramSmall h (by decide), Option.bind_some]
  cases s.segmentIndex (r.number 0) with
  | none => exact (ite_self _).symm
  | some g => rfl

theorem captureLoopWords_readRange (mem : Memory) (a n : Nat) :
    captureLoopWords (mem.readRange a n) = (List.range n).flatMap fun m => item32 (mem.read (a + m)) := by
  rw [captureLoopWords, Memory.readRange, List.flatMap_map]

theorem served_reading (x : Segment) (upTo : Nat) :
    (x.served upTo).state = .reading ∨ (x.served upTo).state.isFilling = true := by
  rw [Segment.served]
  cases hx : x.state <;> simp [SegmentState.isFilling]

/-- Word 3 of the response: the segment, its state after the read, and RELEASED (R189). -/
theorem readStateWord_eq {y : Segment} (hy : y.state = .reading ∨ y.state.isFilling = true) (released : Bool) :
    readStateWord g (if released then 0 else segmentCode (some y)) released =
      BitVec.ofNat 16 g.val ||| if released then 0x8000 else if y.state = .reading then 0x300 else 0x100 := by
  rw [readStateWord, BitVec.or_assoc]
  congr 1
  cases released with
  | true => exact (by decide : BitVec.ofNat 16 (256 * 0) ||| bitAt 15 true = 0x8000)
  | false =>
    simp only [segmentCode, Bool.false_eq_true, if_false]
    cases hs : y.state with
    | full => simp [hs, SegmentState.isFilling] at hy
    | reading => exact (by decide : BitVec.ofNat 16 (256 * 3) ||| bitAt 15 false = 0x300)
    | filling j => exact (by decide : BitVec.ofNat 16 (256 * 1) ||| bitAt 15 false = 0x100)

/-- Settles O44: what is served, and the segment after it (R113 to R115, R189). -/
theorem readSegmentServes : Obligations.ReadSegmentServes := by
  unfold Obligations.ReadSegmentServes
  rintro s r offset count h rfl rfl _
  have hread : s.readReadSegment (callOf r).body = _ := readReadSegment_eq h.1
  refine ⟨fun hbad => ?_, fun g hn hg hoffset h1 h120 => ?_⟩
  · refine congrArg Host.Outcome.next (State.control_refused h (by decide) (by decide) rfl ?_)
    rw [execRequest, doReadSegment, hread]
    obtain hbad | hbad := hbad
    · rw [segmentIndex_eq_none hbad, Option.map_none, ite_self]
    · rw [if_neg (by omega)]
  rw [if_pos ⟨hoffset, h1, h120⟩, segmentIndex_eq_some hn hg, Option.map_some] at hread
  refine ⟨fun hx => ?_, fun x hx => ⟨fun hfill => ?_, fun hfill => ?_⟩⟩
  · refine congrArg Host.Outcome.next (State.control_refused h (by decide) (by decide) rfl ?_)
    rw [execRequest, doReadSegment, hread]
    simp only [hx]
    rfl
  · refine congrArg Host.Outcome.next (State.control_refused h (by decide) (by decide) rfl ?_)
    rw [execRequest, doReadSegment, hread]
    simp only [hx, if_pos hfill]
  · intro served state released after code
    let y := x.served (r.number 1 + 65536 * r.number 2 + served)
    have hreleased : (y.state == .reading && r.number 1 + 65536 * r.number 2 + served == x.fill && x.autoRelease) =
        released := by
      simp only [released, beq_eq_decide]
      rfl
    have hkept : (s.modifySegment g fun _ => y) =
        { s with ring := { s.ring with segs := setAt s.ring.segs g (some y) } } := by
      rw [State.modifySegment, hx]
      rfl
    have hfreed : (s.modifySegment g fun _ => y).freeSegment g = { s with ring := { s.ring with
        segs := setAt s.ring.segs g none, completed := s.ring.completed.filter (· ≠ g) } } := by
      rw [hkept, State.freeSegment]
      simp only [State.unlist, setAt_setAt]
    have hafter : (if released then ((s.modifySegment g fun _ => y).freeSegment g).ringLowTest
        else s.modifySegment g fun _ => y) = after := by
      rw [hfreed]
      exact if_congr Iff.rfl rfl hkept
    have hcases : (released = true ∧ after = ((s.modifySegment g fun _ => y).freeSegment g).ringLowTest) ∨
        (released = false ∧ after = s.modifySegment g fun _ => y) := by
      rw [← hafter]
      cases released with
      | true => exact .inl ⟨rfl, rfl⟩
      | false => exact .inr ⟨rfl, rfl⟩
    have hsegment : after.ring.segs[g] = if released then none else some y := by
      obtain ⟨hr, ha⟩ | ⟨hr, ha⟩ := hcases
      · rw [ha, hr, hfreed, ringLowTest_segs]
        exact getElem_setAt_self _ _ _
      · rw [ha, hr, hkept]
        exact getElem_setAt_self _ _ _
    have hcode : segmentCode after.ring.segs[g] = if released then 0 else segmentCode (some y) := by
      rw [hsegment]
      split <;> rfl
    have hentry : execRequest .readSegment (callOf r) s =
        s.serveRead g x (r.number 1 + 65536 * r.number 2) (r.number 3) r.room := by
      rw [execRequest, doReadSegment, hread]
      simp only [hx, if_neg (Nat.not_le.2 hfill)]
      rfl
    have hkeeps : Keeps s after ∧ after.session = s.session := by
      obtain ⟨-, ha⟩ | ⟨-, ha⟩ := hcases <;> rw [ha]
      · exact ⟨ringLowTest_keeps ⟨rfl, rfl⟩, State.ringLowTest_session _⟩
      · exact ⟨⟨rfl, rfl⟩, rfl⟩
    refine congrArg Host.Outcome.next (State.control_answered h (by decide) (by decide) rfl (hentry.trans ?_)
      hkeeps.1 (congrArg Session.holder hkeeps.2))
    have hserved : servedCount (r.number 3) r.room x.fill (r.number 1 + 65536 * r.number 2) = served := rfl
    simp only [State.serveRead]
    rw [hserved, show x.served (r.number 1 + 65536 * r.number 2 + served) = y from rfl, hreleased, hafter, hcode,
      readStateWord_eq (served_reading x _), captureLoopWords_readRange]
    rfl

/-! ### STATUS -/

theorem countP_finRange_lt {n : Nat} (hn : n ≤ 64) : (List.finRange 64).countP (fun g => decide (g.val < n)) = n := by
  have hrange (m : Nat) : (List.range m).countP (fun x => decide (x < n)) = min n m := by
    induction m with
    | zero => simp
    | succ m ih =>
      rw [List.range_succ, List.countP_append, ih, List.countP_singleton]
      split <;> simp_all <;> omega
  have hval : (List.finRange 64).countP (fun g => decide (g.val < n)) =
      ((List.finRange 64).map Fin.val).countP fun x => decide (x < n) := by
    rw [List.countP_map]
    rfl
  rw [hval, List.map_coe_finRange_eq_range, hrange, Nat.min_eq_left hn]

theorem watchCode_le (o : Option Watch) : watchCode o ≤ 5 := by
  cases o with
  | none => decide
  | some w =>
    rw [watchCode]
    cases w.state <;> decide

/-- Six counts by a code that is at most five cover a list. -/
theorem countP_codes {α : Type} (f : α → Nat) (l : List α) (h : ∀ a ∈ l, f a ≤ 5) :
    l.countP (fun a => f a = 0) + l.countP (fun a => f a = 1) + l.countP (fun a => f a = 2) +
      l.countP (fun a => f a = 3) + l.countP (fun a => f a = 4) + l.countP (fun a => f a = 5) = l.length := by
  induction l with
  | nil => rfl
  | cons a l ih =>
    have hl := ih fun b hb => h b (List.mem_cons_of_mem a hb)
    have ha := h a (List.mem_cons_self ..)
    simp only [List.countP_cons, decide_eq_true_eq, List.length_cons]
    obtain h | h | h | h | h | h : f a = 0 ∨ f a = 1 ∨ f a = 2 ∨ f a = 3 ∨ f a = 4 ∨ f a = 5 := by omega
    all_goals
      simp only [h]
      simp
      omega

/-- The segments of the format are the FREE ones, those with a record, and those that the ACTIVE contexts own (R101). -/
theorem State.RingInv.counts (h : s.RingInv) :
    ((List.finRange 64).countP fun g => decide (g.val < s.ring.segCount) && (s.ring.segs[g]).isNone) +
      s.ring.completed.length + ((List.finRange 4).countP fun k => (s.contexts[k]).isSome) = s.ring.segCount := by
  obtain ⟨hcount, howns, hlisted, honce, houtside⟩ := (State.ringInv_iff s).1 h
  let free := (List.finRange 64).filter fun g => decide (g.val < s.ring.segCount) && (s.ring.segs[g]).isNone
  let owned := (List.finRange 4).filterMap s.segmentOf
  have hactive : ((List.finRange 4).countP fun k => (s.contexts[k]).isSome) = owned.length := by
    rw [List.length_filterMap_eq_countP]
    exact List.countP_congr fun k _ => by rw [State.segmentOf, Option.isSome_map]
  have hmem : ∀ g, g ∈ owned ↔ ∃ k, s.ring.fillerOf g = some k := fun g => by
    simp [owned, howns]
  have howned : owned.Nodup := by
    refine (List.nodup_finRange 4).filterMap fun k l g hk hl => ?_
    have hk := (howns k g).1 hk
    have hl := (howns l g).1 hl
    exact Option.some.inj (hk.symm.trans hl)
  have hinside {g : Fin 64} (hg : ¬ (s.ring.fillerOf g = none ∧ s.ring.recordAt g = false)) : g.val < s.ring.segCount :=
    Nat.lt_of_not_le fun hge => hg (houtside g hge)
  have hperm : (free ++ s.ring.completed ++ owned).Perm
      ((List.finRange 64).filter fun g => decide (g.val < s.ring.segCount)) := by
    refine (List.perm_ext_iff_of_nodup ?_ ((List.nodup_finRange 64).filter _)).2 fun g => ?_
    · refine (((List.nodup_finRange 64).filter _).append honce fun g hg hdone => ?_).append howned fun g hg hfills => ?_
      · have hnone : s.ring.segs[g] = none := by simpa using (Bool.and_eq_true_iff.1 (List.mem_filter.1 hg).2).2
        rw [hlisted, (Ring.free_iff.1 hnone).2] at hdone
        cases hdone
      · obtain ⟨k, hk⟩ := (hmem g).1 hfills
        obtain ⟨x, hx, hstate⟩ := Ring.fillerOf_eq_some_iff.1 hk
        obtain hg | hg := List.mem_append.1 hg
        · have hnone : s.ring.segs[g] = none := by simpa using (Bool.and_eq_true_iff.1 (List.mem_filter.1 hg).2).2
          cases hx.symm.trans hnone
        · obtain ⟨y, hy, hdone⟩ := Ring.recordAt_iff.1 ((hlisted g).1 hg)
          cases hx.symm.trans hy
          rw [hstate] at hdone
          cases hdone
    · rw [List.mem_append, List.mem_append, hlisted, hmem]
      simp only [free, List.mem_filter, List.mem_finRange, true_and, Bool.and_eq_true, decide_eq_true_eq,
        Option.isNone_iff_eq_none]
      constructor
      · rintro ((⟨hg, -⟩ | hg) | ⟨k, hk⟩)
        · exact hg
        · exact hinside fun hno => by simp [hno.2] at hg
        · exact hinside fun hno => by simp [hno.1] at hk
      · intro hg
        by_cases hrecord : s.ring.recordAt g = true
        · exact .inl (.inr hrecord)
        · cases hfill : s.ring.fillerOf g with
          | some k => exact .inr ⟨k, rfl⟩
          | none => exact .inl (.inl ⟨hg, Ring.free_iff.2 ⟨hfill, by simpa using hrecord⟩⟩)
  have hlen := hperm.length_eq
  rw [List.length_append, List.length_append, ← List.countP_eq_length_filter, ← List.countP_eq_length_filter,
    countP_finRange_lt hcount.2] at hlen
  rw [hactive]
  exact hlen

/-- Settles O38: the report item by item, and the sums of its counts (R53, R181). -/
theorem statusReports : Obligations.StatusReports := by
  unfold Obligations.StatusReports
  intro s r h watches active free
  refine ⟨?_, State.RingInv.counts, ?_⟩
  · have hwatches (n : Nat) : s.watchesIn n = watches n := List.countP_congr fun i _ => by
      simp [State.watchCode]
    have hactive : s.activeContexts.length = active := by
      rw [State.activeContexts, indicesWhere, ← List.countP_eq_length_filter]
    refine congrArg Host.Outcome.next (State.observe_reported h rfl (by decide) (congrArg (fun l => (Reply.ok l, s)) ?_))
    have hlink : s.port.link.code = 2 := by
      rw [h.1.1.2.1]
      rfl
    rw [State.statusItems, State.leaseItems_eq, hlink, hactive, freeCount_eq, sentCount_eq]
    simp only [List.flatMap_cons, List.flatMap_nil, hwatches, itemSmall, List.append_assoc]
    rfl
  · exact (countP_codes (fun i => watchCode s.watches[i]) (List.finRange 32) fun i _ => watchCode_le _).trans (by simp)

end Sys2Proof.Machine
end

section
/-! SET EVENT ENTRY, GET EVENT ENTRY, SET TIME, FORMAT RING and CLEAR (R102, R103, R145, R146, R150, R184). -/

namespace Sys2Proof.Machine

variable {s t : State} {r : Request} {k : RequestKind}

/-! ### Checks in their order -/

theorem needAt_some {α : Type} (n : Nat) (x : α) : needAt n (some x) = .ok x := rfl

theorem needAt_none {α : Type} (n : Nat) : needAt n (none : Option α) = .error n := rfl

theorem ok_bind {α β : Type} (x : α) (f : α → Except Nat β) : (Except.ok x >>= f) = f x := rfl

theorem needThat_bind {α β : Type} (n : Nat) (x : α) (p : α → Bool) (f : α → Except Nat β) :
    (needThat n (some x) p >>= f) = if p x then f x else .error n := by
  rw [needThat]
  split <;> rfl

theorem needTrue_bind {β : Type} (n : Nat) (b : Bool) (f : Unit → Except Nat β) :
    (needTrue n b >>= f) = if b then f () else .error n := by
  rw [needTrue]
  split <;> rfl

open Classical in
/-- The first check of a list that is broken. -/
theorem find?_split {α : Type} {l before after : List (α × Prop)} {x : α × Prop} (h : l = before ++ x :: after)
    (hbefore : ∀ y ∈ before, ¬ y.2) (hx : x.2) : l.find? (fun y => decide y.2) = some x := by
  rw [List.find?_eq_some_iff_append]
  exact ⟨by simpa using hx, before, after, h, fun y hy => by simpa using hbefore y hy⟩

/-! ### Events and the time base -/

/-- The entry that a body of SET EVENT ENTRY spells (R145). -/
def eventEntryOf (r : Request) : EventEntry :=
  { enable := r.number 1 % 256 == 1, arm := BitVec.ofNat 4 (r.number 2), disarm := BitVec.ofNat 4 (r.number 3),
    zeroTime := r.number 4 % 256 == 1, pulse := { l0 := (r.number 5).testBit 0, l1 := (r.number 5).testBit 1 } }

theorem readMask_bind {β : Type} {n m : Nat} {w : Word} (hw : w.toNat = m) (f : BitVec 4 → Except Nat β) :
    (readMask n (some w) >>= f) = if m ≤ 15 then f (BitVec.ofNat 4 m) else .error n := by
  have hset : w.setWidth 4 = BitVec.ofNat 4 m := by
    rw [← hw]
    exact BitVec.eq_of_toNat_eq (by simp)
  rw [readMask, needThat, ← hset, hw]
  simp only [decide_eq_true_eq]
  split <;> rfl

theorem paramYesNo_bind {β : Type} {n m : Nat} (h : m < r.body.length) (f : Bool → Except Nat β) :
    (needAt n (paramYesNo r.body m) >>= f) =
      if r.number m % 256 ≤ 1 then f (r.number m % 256 == 1) else .error n := by
  rw [paramYesNo_number h]
  by_cases h0 : r.number m % 256 = 0
  · simp only [h0]
    rfl
  · by_cases h1 : r.number m % 256 = 1
    · simp only [h1]
      rfl
    · rw [if_neg h0, if_neg h1, if_neg (by omega)]
      rfl

theorem readEventEntry_unknown (h : s.admits r .setEventEntry) (hbad : 15 < r.number 0) :
    readEventEntry r.body = .error 10 := by
  rw [readEventEntry, State.admits_paramSmall h (by decide), Option.bind_some, indexBelow_eq_none hbad]
  rfl

/-- The checks of SET EVENT ENTRY after that of the code, in their order (R145). -/
theorem readEventEntry_known (h : s.admits r .setEventEntry) {i : Fin 16} (hi : r.number 0 = i.val) :
    readEventEntry r.body =
      if r.number 2 ≤ 15 then
        if r.number 3 ≤ 15 then
          if r.number 1 % 256 ≤ 1 then
            if r.number 4 % 256 ≤ 1 then
              if r.number 5 ≤ 3 then .ok (i, eventEntryOf r) else .error 40
            else .error 31
          else .error 30
        else .error 21
      else .error 20 := by
  obtain ⟨w2, hw2, h2⟩ := State.admits_paramWord h (n := 2) (by decide)
  obtain ⟨w3, hw3, h3⟩ := State.admits_paramWord h (n := 3) (by decide)
  obtain ⟨w5, hw5, h5⟩ := State.admits_paramWord h (n := 5) (by decide)
  have hpulse : pulseOf w5 = { l0 := (r.number 5).testBit 0, l1 := (r.number 5).testBit 1 } := by
    rw [h5]
    rfl
  rw [readEventEntry, State.admits_paramSmall h (by decide), Option.bind_some, indexBelow_eq_some i hi, hw2, hw3, hw5]
  simp only [needAt_some, ok_bind, readMask_bind h2.symm, readMask_bind h3.symm,
    paramYesNo_bind (State.admits_lt_length h (by decide : 1 + 4 ≤ RequestKind.setEventEntry.fixedReply)),
    paramYesNo_bind (State.admits_lt_length h (by decide : 4 + 4 ≤ RequestKind.setEventEntry.fixedReply)),
    needThat_bind, decide_eq_true_eq, hpulse, ← h5]
  rfl

theorem pulseWord_eq (p : PulseLines) : pulseWord p = (if p.l0 then 1 else 0) + (if p.l1 then 2 else 0) := by
  obtain ⟨l0, l1⟩ := p
  cases l0 <;> cases l1 <;> decide

theorem EventEntry.items_eq (e : EventEntry) : e.items =
    [if e.enable then 1 else 0, e.arm.setWidth 16, e.disarm.setWidth 16, if e.zeroTime then 1 else 0,
      (if e.pulse.l0 then 1 else 0) + (if e.pulse.l1 then 2 else 0)] := by
  rw [EventEntry.items, pulseWord_eq]
  cases e.enable <;> cases e.zeroTime <;> rfl

theorem param48_eq (h : s.admits r k) {n : Nat} (hn : n + 6 ≤ k.fixedReply) : param48 r.body n =
    some (BitVec.ofNat 48 (r.number n + 65536 * r.number (n + 1) + 4294967296 * r.number (n + 2))) := by
  obtain ⟨a, ha, hanum⟩ := State.admits_paramWord h (n := n) (by omega)
  obtain ⟨b, hb, hbnum⟩ := State.admits_paramWord h (n := n + 1) (by omega)
  obtain ⟨c, hc, hcnum⟩ := State.admits_paramWord h (n := n + 2) (by omega)
  rw [param48, ha, hb, hc, hanum, hbnum, hcnum]
  refine congrArg some (BitVec.eq_of_toNat_eq ?_)
  have ha := a.isLt
  have hb := b.isLt
  have hc := c.isLt
  rw [BitVec.toNat_append, BitVec.toNat_append, BitVec.toNat_ofNat, ← Nat.shiftLeft_add_eq_or_of_lt ha,
    ← Nat.shiftLeft_add_eq_or_of_lt hb, Nat.shiftLeft_eq, Nat.shiftLeft_eq]
  omega

/-- Settles O48: the checks in their order, and the reports (R145, R146, R150). -/
theorem eventRequests : Obligations.EventRequests := by
  unfold Obligations.EventRequests
  intro s r shown
  have hshown (i : Nat) (e : EventEntry) : itemSmall i ++ e.items = shown i e :=
    congrArg (itemSmall i ++ ·) e.items_eq
  refine ⟨?_, fun h => ⟨fun hbad => ?_, fun i hi => ?_⟩, ?_⟩
  · intro h yes e checks
    have hbroken {n : Nat} (hn : readEventEntry (callOf r).body = .error n) : exec (.setEventEntry r) s =
        .next (s.controlled s r .setEventEntry (.other .range [Config.failingField 26 n])) := by
      refine congrArg Host.Outcome.next (State.control_refused h (by decide) (by decide) rfl ?_)
      rw [execRequest, doSetEventEntry, hn]
      rfl
    refine ⟨fun i hi hgood => ?_, fun before after x hsplit hbefore hx => hbroken ?_⟩
    · have hread : readEventEntry (callOf r).body = .ok (i, e) := by
        have hall : r.number 2 ≤ 15 ∧ r.number 3 ≤ 15 ∧ r.number 1 % 256 ≤ 1 ∧ r.number 4 % 256 ≤ 1 ∧ r.number 5 ≤ 3 := by
          simpa [checks] using And.right (by simpa [checks] using hgood)
        obtain ⟨h2, h3, h1, h4, h5⟩ := hall
        refine (readEventEntry_known h.1 hi).trans ?_
        rw [if_pos h2, if_pos h3, if_pos h1, if_pos h4, if_pos h5]
        rfl
      refine congrArg Host.Outcome.next (State.control_answered h (by decide) (by decide) rfl ?_ ⟨rfl, rfl⟩ rfl)
      rw [execRequest, doSetEventEntry, hread]
      simp only [hshown]
    · have hfirst : readEventEntry r.body = .error x.1 := by
        have hfind := find?_split hsplit hbefore hx
        by_cases h0 : 15 < r.number 0
        · rw [List.find?_cons_of_pos (by simpa using h0)] at hfind
          rw [readEventEntry_unknown h.1 h0, ← Option.some.inj hfind]
        rw [List.find?_cons_of_neg (by simpa using h0)] at hfind
        have hknown := readEventEntry_known h.1 (i := ⟨r.number 0, by omega⟩) rfl
        by_cases h2 : 15 < r.number 2
        · rw [List.find?_cons_of_pos (by simpa using h2)] at hfind
          rw [hknown, if_neg (by omega), ← Option.some.inj hfind]
        rw [List.find?_cons_of_neg (by simpa using h2)] at hfind
        rw [if_pos (by omega)] at hknown
        by_cases h3 : 15 < r.number 3
        · rw [List.find?_cons_of_pos (by simpa using h3)] at hfind
          rw [hknown, if_neg (by omega), ← Option.some.inj hfind]
        rw [List.find?_cons_of_neg (by simpa using h3)] at hfind
        rw [if_pos (by omega)] at hknown
        by_cases h1 : 1 < r.number 1 % 256
        · rw [List.find?_cons_of_pos (by simpa using h1)] at hfind
          rw [hknown, if_neg (by omega), ← Option.some.inj hfind]
        rw [List.find?_cons_of_neg (by simpa using h1)] at hfind
        rw [if_pos (by omega)] at hknown
        by_cases h4 : 1 < r.number 4 % 256
        · rw [List.find?_cons_of_pos (by simpa using h4)] at hfind
          rw [hknown, if_neg (by omega), ← Option.some.inj hfind]
        rw [List.find?_cons_of_neg (by simpa using h4)] at hfind
        rw [if_pos (by omega)] at hknown
        by_cases h5 : 3 < r.number 5
        · rw [List.find?_cons_of_pos (by simpa using h5)] at hfind
          rw [hknown, if_neg (by omega), ← Option.some.inj hfind]
        · rw [List.find?_cons_of_neg (by simpa using h5)] at hfind
          cases hfind
      exact hfirst
  · refine congrArg Host.Outcome.next (State.observe_reported h rfl (by decide) ?_)
    have hread : paramSmall (callOf r).body 0 = some (r.number 0) := State.admits_paramSmall h (by decide)
    rw [execRequest, doGetEventEntry, hread, Option.bind_some, indexBelow_eq_none hbad]
  · refine congrArg Host.Outcome.next (State.observe_reported h rfl (by decide) ?_)
    have hread : paramSmall (callOf r).body 0 = some (r.number 0) := State.admits_paramSmall h (by decide)
    rw [execRequest, doGetEventEntry, hread, Option.bind_some, indexBelow_eq_some i hi]
    simp only [hshown, EventUnit.waitingFor, List.countP_eq_length_filter, beq_eq_decide]
    rfl
  · intro h v
    refine congrArg Host.Outcome.next (State.control_answered h (by decide) (by decide) rfl ?_ ⟨rfl, rfl⟩ rfl)
    have hread : param48 (callOf r).body 0 = some v := param48_eq h.1 (by decide)
    rw [execRequest, doSetTime, hread]
    rfl

end Sys2Proof.Machine
end

section
/-! FORMAT RING and CLEAR: captures that end together, and the ring emptied (R98, R102, R103, R122, R184). -/

namespace Sys2Proof.Machine

variable {s t : State} {r : Request} {k : RequestKind}

/-! ### Captures that end without a record -/

theorem dropCapture_refOf {j l : Fin 4} (h : l ≠ j) : (s.dropCapture j).refOf l = s.refOf l := by
  cases hc : s.contexts[j] with
  | none => rw [State.dropCapture_idle hc]
  | some c => rw [State.dropCapture_active hc, State.refOf, State.refOf, getElem_setAt_ne _ (Ne.symm h)]

theorem dropCapture_watches (s : State) (j : Fin 4) : (s.dropCapture j).watches = watchesReleased s.watches (s.refOf j) := by
  rw [State.refOf]
  cases hc : s.contexts[j] with
  | none =>
    rw [State.dropCapture_idle hc]
    rfl
  | some c =>
    rw [State.dropCapture_active hc]
    rfl

/-- Captures that end one after the other, no two of one watch: each watch that is referred to takes one end step (R98). -/
theorem foldl_dropCapture_watches (l : List (Fin 4)) (hl : l.Nodup) (s : State)
    (hapart : ∀ a ∈ l, ∀ b ∈ l, ∀ i, s.refOf a = some i → s.refOf b = some i → a = b) :
    (l.foldl State.dropCapture s).watches =
      watchesWhere (fun i => l.any fun j => s.refOf j == some i) Watch.endStep s.watches := by
  induction l generalizing s with
  | nil => exact (watchesWhere_none (fun _ => rfl) _ _).symm
  | cons a l ih =>
    obtain ⟨ha, hl⟩ := List.nodup_cons.1 hl
    have hrest {b : Fin 4} (hb : b ∈ l) : (s.dropCapture a).refOf b = s.refOf b :=
      dropCapture_refOf fun h => ha (h ▸ hb)
    have hany (i : Fin 32) : (l.any fun j => (s.dropCapture a).refOf j == some i) = l.any fun j => s.refOf j == some i := by
      refine Bool.eq_iff_iff.2 ?_
      simp only [List.any_eq_true]
      exact exists_congr fun b => and_congr_right fun hb => by rw [hrest hb]
    rw [List.foldl_cons, ih hl _ fun b hb c hc i => by
      rw [hrest hb, hrest hc]
      exact hapart b (List.mem_cons_of_mem a hb) c (List.mem_cons_of_mem a hc) i, dropCapture_watches]
    simp only [hany]
    cases href : s.refOf a with
    | none => simp [watchesReleased, List.any_cons, href]
    | some i =>
      have hfirst : watchesReleased s.watches (some i) = setAt s.watches i
          (if (a :: l).any (fun j => s.refOf j == some i) then (s.watches[i]).map Watch.endStep else s.watches[i]) := by
        rw [if_pos (by simp [href])]
        rfl
      rw [hfirst]
      refine watchesWhere_setAt (p := fun i => (a :: l).any fun j => s.refOf j == some i) ?_ fun m hm => ?_
      · rw [← Bool.not_eq_true, List.any_eq_true]
        rintro ⟨b, hb, hbi⟩
        exact ha (hapart a (List.mem_cons_self ..) b (List.mem_cons_of_mem a hb) i href (by simpa using hbi) ▸ hb)
      · rw [List.any_cons, href]
        simp [Ne.symm hm]

/-- All captures end without a record (R98). -/
theorem dropAll_eq (hapart : ∀ (a b : Fin 4) (i : Fin 32), s.refOf a = some i → s.refOf b = some i → a = b)
    {refers : Fin 32 → Bool} (hrefers : ∀ i, refers i = true ↔ ∃ j, s.refOf j = some i) :
    s.dropAll = { s with
      contexts := Vector.replicate 4 none
      watches := watchesWhere refers Watch.endStep s.watches } := by
  have hcontexts : s.dropAll.contexts = Vector.replicate 4 none :=
    table_ext fun j => (State.dropAll_idle s j).trans (getElem_replicate_fin none j).symm
  have hnodup : s.activeContexts.Nodup := by
    rw [State.activeContexts, indicesWhere]
    exact (List.nodup_finRange 4).filter _
  have htest : (fun i => s.activeContexts.any fun j => s.refOf j == some i) = refers := by
    funext i
    rw [Bool.eq_iff_iff, hrefers i, List.any_eq_true]
    refine ⟨fun ⟨j, _, hj⟩ => ⟨j, by simpa using hj⟩, fun ⟨j, hj⟩ => ⟨j, ?_, by simpa using hj⟩⟩
    obtain ⟨c, hc, _⟩ := State.refOf_eq_some.1 hj
    simp [State.mem_activeContexts, hc]
  have hwatches : s.dropAll.watches = watchesWhere refers Watch.endStep s.watches := by
    rw [State.dropAll, foldl_dropCapture_watches _ hnodup s fun a _ b _ i => hapart a b i, htest]
  rw [State.dropAll_frame, hcontexts, hwatches]

/-! ### FORMAT RING -/

/-- The checks of FORMAT RING, in their order (R102). -/
theorem readFormat_eq (h : s.admits r .formatRing) {n size : Nat} (hn : r.number 0 = n)
    (hsize : r.number 1 + 65536 * r.number 2 = size) : readFormat r.body =
      if 2 ≤ n ∧ n ≤ 64 then
        if 64 ≤ size ∧ size ≤ 131072 then
          if n * size ≤ 262144 then .ok (n, size, (r.number 3).testBit 0) else .error 3
        else .error 2
      else .error 1 := by
  obtain ⟨w, hw, h3⟩ := State.admits_paramWord h (n := 3) (by decide)
  rw [readFormat, State.admits_paramSmall h (by decide), State.admits_param32 h (by decide), hn, hsize, hw]
  simp only [needThat_bind, needTrue_bind, needAt_some, ok_bind, Bool.and_eq_true, decide_eq_true_eq, h3]
  rfl

theorem usedCount_eq_zero : s.ring.usedCount = 0 ↔ ∀ g : Fin 64, g.val < s.ring.segCount → s.ring.segs[g] = none := by
  rw [Ring.usedCount, List.countP_eq_zero]
  simp [Ring.indices]

theorem format_keeps (hk : Keeps s t) (n size : Nat) : Keeps s (t.format n size) := ringLowTest_keeps ⟨hk.strap, hk.port⟩

theorem formatItems_format (s : State) (n size : Nat) :
    (s.format n size).formatItems = [BitVec.ofNat 16 n] ++ itemNat32 size := by
  rw [State.format, State.formatItems, State.ringLowTest_frame]
  rfl

/-- Settles O43: the checks in their order, and the format set with and without FORCE (R98, R102, R103). -/
theorem formatRingSets : Obligations.FormatRingSets := by
  unfold Obligations.FormatRingSets
  intro s r n size h hn hsize good format count shown
  have hread : readFormat (callOf r).body = _ := readFormat_eq h.1 hn hsize
  have hrange {m : Nat} (hbad : readFormat (callOf r).body = .error m) {c : Instr}
      (hc : c ∈ [Instr.formatRing r, .formatRingForce r]) :
      exec c s = .next (s.controlled s r .formatRing (.other .range [Config.failingField 20 m])) := by
    have hexec : exec c s = .next (s.requestArrives r RequestKind.formatRing.code) := by
      obtain rfl | hc := List.mem_cons.1 hc
      · rfl
      · rw [List.mem_singleton.1 hc]
        rfl
    rw [hexec]
    refine congrArg Host.Outcome.next (State.control_refused h (by decide) (by decide) rfl ?_)
    rw [execRequest, doFormatRing, hbad]
    rfl
  refine ⟨fun c hc => ⟨fun hbad => hrange ?_ hc, fun h2 h64 hbad => hrange ?_ hc, fun h2 h64 hlo hhi hbad => hrange ?_ hc⟩,
    fun hgood hforce => ?_, fun refers hgood hforce hrefers hapart => ?_⟩
  · rw [hread, if_neg (by omega)]
  · rw [hread, if_pos ⟨h2, h64⟩, if_neg (by omega)]
  · rw [hread, if_pos ⟨h2, h64⟩, if_pos ⟨hlo, hhi⟩, if_neg (by omega)]
  · obtain ⟨h2, h64, hlo, hhi, hfits⟩ := hgood
    rw [if_pos ⟨h2, h64⟩, if_pos ⟨hlo, hhi⟩, if_pos hfits, hforce] at hread
    refine ⟨fun hfree => ?_, fun hused => ?_⟩
    · refine congrArg Host.Outcome.next (State.control_answered (t := s.format n size) h (by decide) (by decide) rfl ?_
        (format_keeps (.refl s) n size) (congrArg Session.holder (State.ringLowTest_session _)))
      rw [execRequest, doFormatRing, hread]
      simp only [Bool.false_eq_true, if_false, if_pos (usedCount_eq_zero.2 hfree), formatItems_format]
      rfl
    · refine congrArg Host.Outcome.next (State.control_refused h (by decide) (by decide) rfl ?_)
      have hne : s.ring.usedCount ≠ 0 := fun hzero => by
        obtain ⟨g, hg, hsome⟩ := hused
        exact hsome (usedCount_eq_zero.1 hzero g hg)
      rw [execRequest, doFormatRing, hread]
      simp only [Bool.false_eq_true, if_false, if_neg hne, stateCount_eq, beq_eq_decide]
      rfl
  · obtain ⟨h2, h64, hlo, hhi, hfits⟩ := hgood
    rw [if_pos ⟨h2, h64⟩, if_pos ⟨hlo, hhi⟩, if_pos hfits, hforce] at hread
    have hdropped := dropAll_eq (s := s) (refers := refers)
      (fun a b i ha hb => by
        obtain ⟨c, hc, hci⟩ := State.refOf_eq_some.1 ha
        obtain ⟨d, hd, hdi⟩ := State.refOf_eq_some.1 hb
        exact hapart a b c d i hc hd hci hdi)
      (fun i => by simp only [hrefers i, State.refOf_eq_some])
    have hkeeps : Keeps s (s.dropAll.format n size) := format_keeps (by rw [hdropped]; exact ⟨rfl, rfl⟩) n size
    have hsession : (s.dropAll.format n size).session = s.session :=
      (State.ringLowTest_session _).trans (State.dropAll_session s)
    have hactive : s.activeContexts.length = (List.finRange 4).countP fun k => (s.contexts[k]).isSome := by
      rw [State.activeContexts, indicesWhere, ← List.countP_eq_length_filter]
    have hentry : execRequest .formatRing (callOf r) s = (.ok (shown ++
        [BitVec.ofNat 16 ((List.finRange 4).countP fun k => (s.contexts[k]).isSome), count fun x => !x.isFilling]),
        s.dropAll.format n size) := by
      rw [execRequest, doFormatRing, hread]
      simp only [if_true, formatItems_format, hactive, Ring.records, stateCount_eq, List.append_assoc]
      rfl
    have hfinal := State.control_answered h (by decide) (by decide) rfl hentry hkeeps (congrArg Session.holder hsession)
    rw [hdropped] at hfinal
    exact congrArg Host.Outcome.next hfinal

/-! ### CLEAR -/

/-- What the ends of captures leave of the ring and of the rest, as CLEAR counts and answers it. -/
structure Ends (s e : State) : Prop where
  keeps : Keeps s e
  session : e.session = s.session
  segCount : e.ring.segCount = s.ring.segCount
  present : ∀ g : Fin 64, (e.ring.segs[g]).isSome = (s.ring.segs[g]).isSome

theorem Ends.refl (s : State) : Ends s s := ⟨.refl s, rfl, rfl, fun _ => rfl⟩

theorem endCapture_ends (s : State) (j : Fin 4) (reason : EndReason) : Ends s (s.endCapture j reason) := by
  cases hc : s.contexts[j] with
  | none =>
    rw [State.endCapture_idle hc]
    exact .refl s
  | some c =>
    refine ⟨endCapture_keeps s j reason, State.endCapture_session j reason, ?_, fun g => ?_⟩
    · rw [State.endCapture_ring hc]
    · rw [State.endCapture_ring hc, getElem_setAt]
      split
      · next heq =>
        subst heq
        exact Option.isSome_map
      · rfl

/-- The scope TABLES once no capture is in flight (R34, R52, R82, R155). -/
def State.tablesCleared (e : State) : State :=
  { e with
    watches := Vector.replicate 32 none
    profiles := Vector.replicate 8 none
    events := { e.events with table := Vector.replicate 16 EventEntry.powerOn }
    receiver := { e.receiver with historySet := [], history := [] } }

/-- The scope CAPTURES once no capture is in flight (R122). -/
def State.capturesCleared (e : State) : State :=
  { e with ring := { e.ring with segs := Vector.replicate 64 none, completed := [], cursor := 0 } }.ringLowTest

theorem clearTables_eq {e : State} (h : s.endAll .aborted = e) : s.clearTables = e.tablesCleared := by
  rw [State.clearTables, h]
  rfl

theorem clearCaptures_eq {e : State} (h : s.endAll .aborted = e) : s.clearCaptures = e.capturesCleared := by
  rw [State.clearCaptures, h]
  rfl

/-- The scopes TABLES and CAPTURES: the captures in flight end once, before either (R184). -/
theorem takeScope_takeScope {e : State} {tables captures : Bool} (hend : (tables || captures) = true →
      s.endAll .aborted = e ∧ ∀ j : Fin 4, e.contexts[j] = none) (hsame : (tables || captures) = false → e = s) :
    (s.takeScope tables State.clearTables).takeScope captures State.clearCaptures =
      if captures then (if tables then e.tablesCleared else e).capturesCleared
      else if tables then e.tablesCleared else e := by
  cases tables with
  | false =>
    cases captures with
    | false => exact (hsame rfl).symm
    | true => exact clearCaptures_eq (hend rfl).1
  | true =>
    have htables : s.takeScope true State.clearTables = e.tablesCleared := clearTables_eq (hend rfl).1
    cases captures with
    | false => exact htables
    | true =>
      rw [htables]
      exact clearCaptures_eq (State.endAll_none e.tablesCleared .aborted (hend rfl).2)

theorem scopes_word (w : Word) : (scopesOf w).word = BitVec.ofNat 16 (w.toNat % 8) := by
  have hbit (n : Nat) : (w.getLsbD n).toNat = w.toNat / 2 ^ n % 2 := by
    rw [← BitVec.testBit_toNat, Nat.toNat_testBit]
  have hlow : w.toNat % 8 = (w.getLsbD 0).toNat + 2 * (w.getLsbD 1).toNat + 4 * (w.getLsbD 2).toNat := by
    rw [hbit, hbit, hbit]
    omega
  rw [hlow, scopesOf, Scopes.word]
  cases w.getLsbD 0 <;> cases w.getLsbD 1 <;> cases w.getLsbD 2 <;> decide

/-- Settles O42: the captures in flight end before the first scope that asks for it, then each scope is taken (R184). -/
theorem clearTakesScopes : Obligations.ClearTakesScopes := by
  unfold Obligations.ClearTakesScopes
  intro s e r c ended hc h scope hcapture entry a b d
  have hexec : exec c s = .next (s.requestArrives r RequestKind.clear.code) := by
    simp only [List.mem_cons, List.not_mem_nil, or_false] at hc
    obtain rfl | rfl | rfl := hc <;> rfl
  obtain ⟨w, hw, hnum⟩ := State.admits_paramWord h.1 (n := 0) (by decide)
  have hscope (n : Nat) : w.getLsbD n = scope n := by
    simp only [scope, hnum]
    rfl
  have hscopes : scopesOf w = { tables := scope 0, captures := scope 1, notices := scope 2 } := by
    rw [scopesOf, hscope, hscope, hscope]
  have hends : Ends s e ∧ ((scope 0 || scope 1) = true → s.endAll .aborted = e ∧ ∀ j : Fin 4, e.contexts[j] = none) ∧
      ((scope 0 || scope 1) = false → e = s) ∧
      itemSmall (if scope 0 || scope 1 then s.activeContexts.length else 0) = [ended] := by
    obtain ⟨hnone, rfl, rfl⟩ | ⟨hsome, j, x, hx, hothers, rfl, rfl⟩ := hcapture
    · refine ⟨.refl e, fun hany => ?_, fun _ => rfl, ?_⟩
      · have hidle : ∀ j : Fin 4, e.contexts[j] = none := hnone.resolve_right fun hno => by
          rw [hno.1, hno.2] at hany
          cases hany
        exact ⟨State.endAll_none e .aborted hidle, hidle⟩
      · obtain hidle | ⟨h0, h1⟩ := hnone
        · rw [State.activeContexts_none e hidle]
          exact congrArg itemSmall (ite_self _)
        · rw [h0, h1]
          rfl
    · have hany : (scope 0 || scope 1) = true := by
        obtain h0 | h1 := hsome
        · rw [h0, Bool.true_or]
        · rw [h1, Bool.or_true]
      refine ⟨endCapture_ends s j .aborted, fun _ => ⟨State.endAll_one s .aborted j x hx hothers, fun l => ?_⟩,
        fun hno => ?_, ?_⟩
      · rw [← State.endAll_one s .aborted j x hx hothers]
        exact State.endAll_idle s .aborted l
      · rw [hany] at hno
        cases hno
      · rw [hany, State.activeContexts_one s j x hx hothers]
        rfl
  obtain ⟨hleft, hend, hsame, hended⟩ := hends
  have hb : (s.takeScope (scope 0) State.clearTables).takeScope (scope 1) State.clearCaptures = b := by
    rw [takeScope_takeScope hend hsame]
    have ha : (if scope 0 then e.tablesCleared else e) = a := rfl
    have hring : a.ring = e.ring := by
      rw [← ha]
      split <;> rfl
    rw [ha, State.capturesCleared, hring]
  have ha : Ends s (s.takeScope (scope 0) State.clearTables) := by
    cases h0 : scope 0 with
    | false => exact .refl s
    | true =>
      have htables : s.takeScope true State.clearTables = e.tablesCleared :=
        clearTables_eq (hend (by rw [h0, Bool.true_or])).1
      rw [htables]
      exact ⟨⟨hleft.keeps.strap, hleft.keeps.port⟩, hleft.session, hleft.segCount, hleft.present⟩
  have hkeeps : Keeps s d ∧ d.session = s.session := by
    have ha : Keeps s a ∧ a.session = s.session := by
      simp only [a]
      split
      · exact ⟨⟨hleft.keeps.strap, hleft.keeps.port⟩, hleft.session⟩
      · exact ⟨hleft.keeps, hleft.session⟩
    have hb : Keeps s b ∧ b.session = s.session := by
      simp only [b]
      split
      · exact ⟨ringLowTest_keeps ⟨ha.1.strap, ha.1.port⟩, (State.ringLowTest_session _).trans ha.2⟩
      · exact ha
    simp only [d]
    split
    · exact ⟨⟨hb.1.strap, hb.1.port⟩, hb.2⟩
    · exact hb
  rw [hexec]
  refine congrArg Host.Outcome.next (State.control_answered h (by decide) (by decide) rfl ?_ hkeeps.1
    (congrArg Session.holder hkeeps.2))
  have hword : paramWord (callOf r).body 0 = some w := hw
  have hfreed : (s.takeScope (scope 0) State.clearTables).ring.indices.countP
      (fun g => (s.takeScope (scope 0) State.clearTables).ring.segs[g].isSome) =
        (List.finRange 64).countP fun g => decide (g.val < s.ring.segCount) && (s.ring.segs[g]).isSome := by
    rw [countP_indices, ha.segCount]
    exact List.countP_congr fun g _ => by rw [ha.present g]
  have hitems : s.clearItems (scopesOf w) = [BitVec.ofNat 16 (r.number 0 % 8), ended,
      if scope 1 then BitVec.ofNat 16
        ((List.finRange 64).countP fun g => decide (g.val < s.ring.segCount) && (s.ring.segs[g]).isSome) else 0,
      if scope 2 then BitVec.ofNat 16 b.notices.queue.length else 0] := by
    rw [clearItems_eq, scopes_word, ← hnum, hscopes]
    simp only [hb, hended, hfreed]
    cases scope 1 <;> cases scope 2 <;> rfl
  have hclear : s.clear (scopesOf w) = d := by
    rw [State.clear_eq, hscopes]
    simp only [hb]
    rfl
  rw [execRequest, doClear, hword]
  simp only [hitems, hclear]

end Sys2Proof.Machine
end

section
/-! SEGMENT INFO and SCAN: a record's header read back field by field, and the walk along the completed list (R118, R119,
R191). -/

namespace Sys2Proof.Machine

variable {s t : State} {r : Request} {k : RequestKind} {g : Fin 64} {c : Context} {reason : EndReason} {time : BitVec 48}

/-! ### The fields of the header's words -/

theorem extract_append_low {m n : Nat} (x : BitVec m) (y : BitVec n) : (x ++ y).extractLsb' 0 n = y :=
  BitVec.eq_of_getLsbD_eq fun i hi => by simp [BitVec.getLsbD_append, hi]

theorem extract_append_above {m n : Nat} (x : BitVec m) (y : BitVec n) (a l : Nat) :
    (x ++ y).extractLsb' (n + a) l = x.extractLsb' a l :=
  BitVec.eq_of_getLsbD_eq fun i hi => by simp [BitVec.getLsbD_append, hi, Nat.add_assoc]

theorem word0_reason (c : Context) (reason : EndReason) : (c.word0 reason).extractLsb' 0 4 = reason.code :=
  extract_append_low (Config.recordMarker ++ BitVec.ofNat 8 c.openingWatch.val ++ BitVec.ofNat 4 c.profileIndex.val) reason.code

theorem word0_profile (c : Context) (reason : EndReason) :
    (c.word0 reason).extractLsb' 4 4 = BitVec.ofNat 4 c.profileIndex.val :=
  (extract_append_above _ reason.code 0 4).trans
    (extract_append_low (Config.recordMarker ++ BitVec.ofNat 8 c.openingWatch.val) (BitVec.ofNat 4 c.profileIndex.val))

theorem word0_watch (c : Context) (reason : EndReason) :
    (c.word0 reason).extractLsb' 8 8 = BitVec.ofNat 8 c.openingWatch.val :=
  calc (c.word0 reason).extractLsb' 8 8
      = (Config.recordMarker ++ BitVec.ofNat 8 c.openingWatch.val ++ BitVec.ofNat 4 c.profileIndex.val).extractLsb' 4 8 :=
        extract_append_above _ reason.code 4 8
    _ = (Config.recordMarker ++ BitVec.ofNat 8 c.openingWatch.val).extractLsb' 0 8 := extract_append_above _ _ 0 8
    _ = _ := extract_append_low _ _

/-- Header word 1 above the decimation and its spare bit. -/
theorem word1_above (c : Context) (a l : Nat) : c.word1.extractLsb' (10 + a) l =
    (c.trigger.getD 0 ++ BitVec.ofBool c.trigger.isSome ++ BitVec.ofNat 5 c.snapshot.slots.length).extractLsb' a l := by
  rw [Nat.add_comm 10 a]
  have hspare := extract_append_above (c.trigger.getD 0 ++ BitVec.ofBool c.trigger.isSome ++
    BitVec.ofNat 5 c.snapshot.slots.length) 0#1 a l
  have hlow := extract_append_above (c.trigger.getD 0 ++ BitVec.ofBool c.trigger.isSome ++
    BitVec.ofNat 5 c.snapshot.slots.length ++ 0#1) (BitVec.ofNat 9 c.snapshot.decimation) (1 + a) l
  rw [hspare] at hlow
  rw [← hlow]
  exact congrArg (fun x => c.word1.extractLsb' x l) (by omega)

theorem word1_decimation (c : Context) : c.word1.extractLsb' 0 9 = BitVec.ofNat 9 c.snapshot.decimation :=
  extract_append_low (c.trigger.getD 0 ++ BitVec.ofBool c.trigger.isSome ++ BitVec.ofNat 5 c.snapshot.slots.length ++ 0#1) _

theorem word1_slots (c : Context) : c.word1.extractLsb' 10 5 = BitVec.ofNat 5 c.snapshot.slots.length :=
  (word1_above c 0 5).trans (extract_append_low _ _)

theorem word1_flag (c : Context) : c.word1.extractLsb' 15 1 = BitVec.ofBool c.trigger.isSome :=
  calc c.word1.extractLsb' 15 1
      = (c.trigger.getD 0 ++ BitVec.ofBool c.trigger.isSome ++ BitVec.ofNat 5 c.snapshot.slots.length).extractLsb' 5 1 :=
        word1_above c 5 1
    _ = (c.trigger.getD 0 ++ BitVec.ofBool c.trigger.isSome).extractLsb' 0 1 := extract_append_above _ _ 0 1
    _ = _ := extract_append_low _ _

theorem word1_valid (c : Context) : c.word1.getLsbD 15 = c.trigger.isSome := by
  have hflag := congrArg (BitVec.getLsbD · 0) (word1_flag c)
  simpa using hflag

theorem word1_trigger (c : Context) : c.word1.extractLsb' 16 16 = c.trigger.getD 0 :=
  calc c.word1.extractLsb' 16 16
      = (c.trigger.getD 0 ++ BitVec.ofBool c.trigger.isSome ++ BitVec.ofNat 5 c.snapshot.slots.length).extractLsb' 6 16 :=
        word1_above c 6 16
    _ = (c.trigger.getD 0 ++ BitVec.ofBool c.trigger.isSome).extractLsb' 1 16 := extract_append_above _ _ 1 16
    _ = (c.trigger.getD 0).extractLsb' 0 16 := extract_append_above _ _ 0 16
    _ = _ := BitVec.extractLsb'_eq_self

theorem word3_pre (c : Context) : c.word3.extractLsb' 0 11 = BitVec.ofNat 11 c.pre :=
  extract_append_low (BitVec.ofNat 16 c.post ++ 0#5) _

theorem word3_post (c : Context) : c.word3.extractLsb' 16 16 = BitVec.ofNat 16 c.post :=
  calc c.word3.extractLsb' 16 16
      = (BitVec.ofNat 16 c.post ++ 0#5).extractLsb' 5 16 := extract_append_above _ (BitVec.ofNat 11 c.pre) 5 16
    _ = (BitVec.ofNat 16 c.post).extractLsb' 0 16 := extract_append_above _ _ 0 16
    _ = _ := BitVec.extractLsb'_eq_self

theorem timestamp_words (time : BitVec 48) :
    (0#16 ++ time.extractLsb' 32 16 : BitVec 32).extractLsb' 0 16 ++ time.extractLsb' 0 32 = time := by
  rw [extract_append_low]
  refine BitVec.eq_of_getLsbD_eq fun i hi => ?_
  rw [BitVec.getLsbD_append, BitVec.getLsbD_extractLsb', BitVec.getLsbD_extractLsb']
  by_cases h : i < 32
  · simp [h]
  · have hrest : 32 + (i - 32) = i := by omega
    simp [h, hrest, show i - 32 < 16 by omega]

theorem triggerItems_word1 (c : Context) : triggerItems c.word1 = itemFullOpt c.trigger := by
  rw [triggerItems, word1_valid, word1_trigger]
  cases c.trigger <;> rfl

/-! ### The slot list of the header -/

theorem slotWord_bytes (p : Profile) (j : Nat) :
    [(p.slotWord j).extractLsb' 0 8, (p.slotWord j).extractLsb' 8 8, (p.slotWord j).extractLsb' 16 8,
      (p.slotWord j).extractLsb' 24 8] =
    [p.slotByte (4 * j), p.slotByte (4 * j + 1), p.slotByte (4 * j + 2), p.slotByte (4 * j + 3)] := by
  have h0 : (p.slotWord j).extractLsb' 0 8 = p.slotByte (4 * j) := extract_append_low _ _
  have h1 : (p.slotWord j).extractLsb' 8 8 = p.slotByte (4 * j + 1) :=
    (extract_append_above _ (p.slotByte (4 * j)) 0 8).trans (extract_append_low _ _)
  have h2 : (p.slotWord j).extractLsb' 16 8 = p.slotByte (4 * j + 2) :=
    calc (p.slotWord j).extractLsb' 16 8
        = (p.slotByte (4 * j + 3) ++ p.slotByte (4 * j + 2) ++ p.slotByte (4 * j + 1)).extractLsb' 8 8 :=
          extract_append_above _ (p.slotByte (4 * j)) 8 8
      _ = (p.slotByte (4 * j + 3) ++ p.slotByte (4 * j + 2)).extractLsb' 0 8 := extract_append_above _ _ 0 8
      _ = _ := extract_append_low _ _
  have h3 : (p.slotWord j).extractLsb' 24 8 = p.slotByte (4 * j + 3) :=
    calc (p.slotWord j).extractLsb' 24 8
        = (p.slotByte (4 * j + 3) ++ p.slotByte (4 * j + 2) ++ p.slotByte (4 * j + 1)).extractLsb' 16 8 :=
          extract_append_above _ (p.slotByte (4 * j)) 16 8
      _ = (p.slotByte (4 * j + 3) ++ p.slotByte (4 * j + 2)).extractLsb' 8 8 := extract_append_above _ _ 8 8
      _ = (p.slotByte (4 * j + 3)).extractLsb' 0 8 := extract_append_above _ _ 0 8
      _ = _ := BitVec.extractLsb'_eq_self
  rw [h0, h1, h2, h3]

theorem take_slotBytes (p : Profile) (h : p.slots.length ≤ 16) :
    ((List.range 16).map p.slotByte).take p.slots.length = p.slots := by
  refine List.ext_getElem (by simp [h]) fun i h₁ h₂ => ?_
  simp [Profile.slotByte, List.getD_eq_getElem?_getD, List.getElem?_eq_getElem h₂]

/-! ### The header read back -/

/-- Capture memory holds this header in the segment's first words (R191). -/
def HeaderAt (ring : Ring) (g : Fin 64) (words : List CapWord) : Prop := ∀ n < 12, ring.headerWord g n = words.getD n 0

theorem headerSlots_eq {ring : Ring} (h : HeaderAt ring g (c.header reason time)) (hk : c.snapshot.slots.length ≤ 16) :
    ring.headerSlots g = c.snapshot.slots := by
  have h1 : ring.headerWord g 1 = c.word1 := h 1 (by decide)
  have hw (j : Nat) (hj : j < 4) : ring.headerWord g (8 + j) = c.snapshot.slotWord j := by
    rw [h (8 + j) (by omega)]
    obtain rfl | rfl | rfl | rfl : j = 0 ∨ j = 1 ∨ j = 2 ∨ j = 3 := by omega
    all_goals rfl
  have hlen : (BitVec.ofNat 5 c.snapshot.slots.length).toNat = c.snapshot.slots.length := by
    rw [BitVec.toNat_ofNat]
    omega
  have hbytes : ([8, 9, 10, 11].flatMap fun n =>
      [(ring.headerWord g n).extractLsb' 0 8, (ring.headerWord g n).extractLsb' 8 8,
        (ring.headerWord g n).extractLsb' 16 8, (ring.headerWord g n).extractLsb' 24 8]) =
      (List.range 16).map c.snapshot.slotByte := by
    simp only [List.flatMap_cons, List.flatMap_nil, hw 0 (by decide), hw 1 (by decide), hw 2 (by decide), hw 3 (by decide),
      slotWord_bytes]
    rfl
  rw [Ring.headerSlots, h1, word1_slots, hlen]
  exact (congrArg (List.take _) hbytes).trans (take_slotBytes _ hk)

/-- The header's items are the capture's own (R118, R191). -/
theorem headerItems_eq {ring : Ring} (h : HeaderAt ring g (c.header reason time)) (hk : c.snapshot.slots.length ≤ 16)
    (hD : c.snapshot.decimation ≤ 256) (hpre : c.pre ≤ 1024) : ring.headerItems g =
      [BitVec.ofNat 16 c.profileIndex.val, BitVec.ofNat 16 c.openingWatch.val, BitVec.ofNat 16 reason.code.toNat,
        BitVec.ofNat 16 c.snapshot.slots.length] ++ item32 c.sequence ++ itemFullOpt c.trigger ++
      [BitVec.ofNat 16 c.snapshot.decimation, BitVec.ofNat 16 c.pre, 1, BitVec.ofNat 16 c.post] ++
      itemNat32 c.gap ++ item48 time ++ itemNat32 c.used ++ [BitVec.ofNat 16 c.snapshot.slots.length] ++
      packSlots c.snapshot.slots := by
  have h0 : ring.headerWord g 0 = c.word0 reason := h 0 (by decide)
  have h1 : ring.headerWord g 1 = c.word1 := h 1 (by decide)
  have h2 : ring.headerWord g 2 = c.sequence := h 2 (by decide)
  have h3 : ring.headerWord g 3 = c.word3 := h 3 (by decide)
  have h4 : ring.headerWord g 4 = BitVec.ofNat 32 c.gap := h 4 (by decide)
  have h5 : ring.headerWord g 5 = time.extractLsb' 0 32 := h 5 (by decide)
  have h6 : ring.headerWord g 6 = 0#16 ++ time.extractLsb' 32 16 := h 6 (by decide)
  have h7 : ring.headerWord g 7 = BitVec.ofNat 32 c.used := h 7 (by decide)
  have hprofile : (BitVec.ofNat 4 c.profileIndex.val).toNat = c.profileIndex.val := by
    rw [BitVec.toNat_ofNat]
    omega
  have hwatch : (BitVec.ofNat 8 c.openingWatch.val).toNat = c.openingWatch.val := by
    rw [BitVec.toNat_ofNat]
    omega
  have hslots : (BitVec.ofNat 5 c.snapshot.slots.length).toNat = c.snapshot.slots.length := by
    rw [BitVec.toNat_ofNat]
    omega
  have hdecimation : (BitVec.ofNat 9 c.snapshot.decimation).toNat = c.snapshot.decimation := by
    rw [BitVec.toNat_ofNat]
    omega
  have hrows : (BitVec.ofNat 11 c.pre).toNat = c.pre := by
    rw [BitVec.toNat_ofNat]
    omega
  simp only [Ring.headerItems, h0, h1, h2, h3, h4, h5, h6, h7, word0_reason, word0_profile, word0_watch, word1_slots,
    word1_decimation, word3_pre, word3_post, triggerItems_word1, timestamp_words, headerSlots_eq h hk, hprofile, hwatch,
    hslots, hdecimation, hrows, itemSlots, itemSmall, List.append_assoc]
  rfl

/-! ### SEGMENT INFO and SCAN -/

theorem itemBit (b : Bool) : (BitVec.ofNat 16 (if b then 1 else 0)) = if b then 1 else 0 := by cases b <;> rfl

theorem headerAt_of_read {ring : Ring} {words : List CapWord}
    (h : ∀ n < 12, ring.mem.read (g.val * ring.segSize + n) = words.getD n 0) : HeaderAt ring g words := h

theorem position_split {ring : Ring} {before after : List (Fin 64)} (h : ring.completed = before ++ g :: after)
    (hbefore : g ∉ before) : ring.position g = some (before.length + 1) := by
  rw [Ring.position, h, if_pos (by simp), List.idxOf_append_of_notMem hbefore, List.idxOf_cons_self]

theorem entryAfter_split {f : Fin 64} {before after : List (Fin 64)} (h : f ∉ before) :
    entryAfter f (before ++ f :: after) = after.head? := by
  induction before with
  | nil => exact if_pos rfl
  | cons x before ih =>
    have hx : x ≠ f := Ne.symm (List.ne_of_not_mem_cons h)
    rw [List.cons_append, entryAfter, if_neg hx, ih (List.not_mem_of_not_mem_cons h)]

theorem readScan_absent (h : s.admits r .scan) (hn : r.number 0 = 65535) : s.readScan r.body = some none := by
  rw [State.readScan, State.admits_paramSmall h (by decide)]
  exact if_pos hn

theorem readScan_index (h : s.admits r .scan) {f : Fin 64} (hn : r.number 0 = f.val)
    (hf : f.val < s.ring.segCount) : s.readScan r.body = some (some f) := by
  have hne : r.number 0 ≠ absentNumber := by
    rw [absentNumber]
    omega
  rw [State.readScan, State.admits_paramSmall h (by decide)]
  simp only [if_neg hne, segmentIndex_eq_some hn hf, Option.map_some]

/-- What SCAN reads of the header (R119). -/
theorem scanItems_eq {ring : Ring} (h : HeaderAt ring g (c.header reason time)) (x : Segment) :
    ring.scanItems g x = itemSmall g.val ++ itemSmallOpt (ring.position g) ++ itemSmall ring.completed.length ++
      itemSmall (segmentCode (some x)) ++ item32 x.sequence ++ itemNat32 x.fill ++ itemNat32 x.highWater ++
      itemYesNo x.autoRelease ++ itemSmall x.endReason.code.toNat ++ itemSmall c.profileIndex.val ++
      itemSmall c.openingWatch.val ++ itemFullOpt c.trigger := by
  have h0 : ring.headerWord g 0 = c.word0 reason := h 0 (by decide)
  have h1 : ring.headerWord g 1 = c.word1 := h 1 (by decide)
  have hprofile : (BitVec.ofNat 4 c.profileIndex.val).toNat = c.profileIndex.val := by
    rw [BitVec.toNat_ofNat]
    omega
  have hwatch : (BitVec.ofNat 8 c.openingWatch.val).toNat = c.openingWatch.val := by
    rw [BitVec.toNat_ofNat]
    omega
  rw [Ring.scanItems, h0, h1, word0_profile, word0_watch, triggerItems_word1, hprofile, hwatch]

/-- Settles O47: the reports, with the header read back from capture memory (R118, R119, R191). -/
theorem segmentInfoAndScanReport : Obligations.SegmentInfoAndScanReport := by
  unfold Obligations.SegmentInfoAndScanReport
  refine ⟨fun s r hcount => ⟨fun h => ⟨fun hn => ?_, fun g hn hg hx => ?_⟩, fun h => ⟨fun hn hne => ?_, fun hnone hn => ?_⟩⟩,
    ?_⟩
  · exact congrArg Host.Outcome.next (State.observe_reported h rfl (by decide) (withSegment_range h (by decide) hn _))
  · refine congrArg Host.Outcome.next (State.observe_reported h rfl (by decide)
      ((withSegment_index h (by decide) hn hg _).trans ?_))
    simp only [hx]
    rfl
  · refine congrArg Host.Outcome.next (State.observe_reported h rfl (by decide) ?_)
    have hread : s.readScan (callOf r).body = none := by
      have hword : paramSmall (callOf r).body 0 = some (r.number 0) := State.admits_paramSmall h (by decide)
      rw [State.readScan, hword]
      simp only [absentNumber, if_neg hne, segmentIndex_eq_none hn, Option.map_none]
    rw [execRequest, doScan, hread]
  · refine congrArg Host.Outcome.next (State.observe_reported h rfl (by decide) ?_)
    have hscanned (o : Option (Fin 64)) : s.ring.scanned o = none := by
      cases o <;> simp [Ring.scanned, hnone]
    have hread : ∃ o, s.readScan (callOf r).body = some o := by
      obtain hn | hn := hn
      · exact ⟨_, readScan_absent h hn⟩
      · exact ⟨_, readScan_index h (f := ⟨r.number 0, by omega⟩) rfl hn⟩
    obtain ⟨o, ho⟩ := hread
    rw [execRequest, doScan, ho]
    simp only [hscanned, hnone]
    rfl
  · intro s r g x c reason time hcount hg hx hheader hk1 hk16 hD hpre hpost place
    have hheader : HeaderAt s.ring g (c.header reason time) := headerAt_of_read hheader
    have hitems := headerItems_eq hheader hk16 hD hpre
    refine ⟨fun h hn position hposition => ?_, fun h hdone => ?_⟩
    · refine congrArg Host.Outcome.next (State.observe_reported h rfl (by decide)
        ((withSegment_index h (by decide) hn hg _).trans ?_))
      have hplace : itemSmallOpt (s.ring.position g) = [position] := by
        obtain ⟨hout, rfl⟩ | ⟨before, after, hcompleted, hbefore, rfl⟩ := hposition
        · rw [Ring.position, if_neg hout]
          rfl
        · rw [position_split hcompleted hbefore]
          rfl
      have hcontext : itemSmallOpt (x.state.context.map Fin.val) =
          [match x.state with | .filling k => BitVec.ofNat 16 k.val | .full => 0xFFFF | .reading => 0xFFFF] := by
        cases x.state <;> rfl
      simp only [hx, hplace, hcontext, hitems]
      simp only [place, itemSmall, itemYesNo, itemBit, List.append_assoc]
      rfl
    · have hreports (o : Option (Fin 64)) (hread : s.readScan r.body = some o) (hnext : s.ring.scanned o = some g)
          (before : List (Fin 64)) (hposition : s.ring.position g = some (before.length + 1)) :
          exec (.scan r) s = .next (s.observed s r .scan (.ok (
            place [BitVec.ofNat 16 g.val, BitVec.ofNat 16 (before.length + 1),
                BitVec.ofNat 16 s.ring.completed.length, BitVec.ofNat 16 (segmentCode (some x))]
              ([BitVec.ofNat 16 c.profileIndex.val, BitVec.ofNat 16 c.openingWatch.val] ++
                itemFullOpt c.trigger)))) := by
        refine congrArg Host.Outcome.next (State.observe_reported h rfl (by decide) ?_)
        rw [execRequest, doScan, show s.readScan (callOf r).body = some o from hread]
        simp only [hnext, hx, scanItems_eq hheader, hposition, place, itemSmallOpt, itemSmall, itemYesNo, itemBit,
          List.append_assoc]
        rfl
      refine ⟨fun before after hcompleted hbefore hasked => ?_, fun before hcompleted hbefore hn => ?_⟩
      · have hposition := position_split hcompleted hbefore
        obtain ⟨rfl, hasked⟩ | ⟨l, f, rfl, hf, hn, hfcount⟩ := hasked
        · have hhead : s.ring.completed.head? = some g := by rw [hcompleted]; rfl
          obtain hn | ⟨f, hn, hfcount, hout⟩ := hasked
          · exact hreports none (readScan_absent h hn) hhead [] hposition
          · exact hreports (some f) (readScan_index h hn hfcount) ((if_neg hout).trans hhead) [] hposition
        · refine hreports (some f) (readScan_index h hn hfcount) ?_ _ hposition
          rw [Ring.scanned, hcompleted, List.append_assoc]
          exact (if_pos (by simp)).trans (entryAfter_split hf)
      · refine congrArg Host.Outcome.next (State.observe_reported h rfl (by decide) ?_)
        have hlast : s.ring.scanned (some g) = none := by
          rw [Ring.scanned, hcompleted]
          exact (if_pos (by simp)).trans (entryAfter_split hbefore)
        rw [execRequest, doScan, show s.readScan (callOf r).body = some (some g) from readScan_index h hn hg]
        simp only [hlast]
        rfl

end Sys2Proof.Machine
end

section
/-! FORCE: a fire outside a sweep, its refusal, its capture lost and its capture opened (R67 to R73). -/

namespace Sys2Proof.Machine

variable {s t : State} {r : Request} {i : Fin 32} {w : Watch} {p : Fin 8} {j : Fin 4}

/-! ### What a fire takes and posts -/

/-- The state that a fire takes, less its notice and its capture, in UP (R69). -/
def State.fired (s : State) (i : Fin 32) (w : Watch) (reference : Option Sweep) : State :=
  { s with
    counters := setAt s.counters Counter.fires.index (satAdd (s.counter .fires) 1)
    port := { s.port with markWord := s.port.markWord ||| askedMark w.contents.markCode }
    lines := { s.lines with
      tout0 := startPulse w.contents.pulse.l0 s.lines.tout0, tout1 := startPulse w.contents.pulse.l1 s.lines.tout1 }
    watches := setAt s.watches i (some (w.firedOnce reference)) }

theorem requestMark_up (h : s.port.link = .up) (o : Option (Fin 16)) :
    s.requestMark o = { s with port := { s.port with markWord := s.port.markWord ||| askedMark o } } := by
  cases o with
  | none =>
    exact congrArg (fun m => { s with port := { s.port with markWord := m } }) (BitVec.or_zero (x := s.port.markWord)).symm
  | some m => exact if_pos h

theorem takeFire_eq (h : s.port.link = .up) (hw : s.watches[i] = some w) (reference : Option Sweep) :
    s.takeFire i w.contents reference = s.fired i w reference := by
  rw [State.takeFire, requestMark_up (s := (s.bump .fires 1).modifyWatch i (·.firedOnce reference)) h, State.modifyWatch,
    show (s.bump .fires 1).watches[i] = some w from hw]
  rfl

/-- A posting does not meet the watch table (R128). -/
theorem post_withWatches (s : State) (kind : NoticeKind) (subject : Nat) (cls : SubjectClass)
    (v : Vector (Option Watch) 32) :
    { s.post kind subject cls with watches := v } = { s with watches := v }.post kind subject cls := by
  rw [State.post_congr s { s with watches := v } _ _ _ rfl rfl, State.post_frame]

theorem post_modifyWatch (s : State) (kind : NoticeKind) (subject : Nat) (cls : SubjectClass) (i : Fin 32)
    (f : Watch → Watch) : (s.post kind subject cls).modifyWatch i f = (s.modifyWatch i f).post kind subject cls := by
  rw [State.modifyWatch, State.post_watches, post_withWatches]
  rfl

theorem notifyFire_modifyWatch (s : State) (c : Contents) (i : Fin 32) (f : Watch → Watch) :
    (s.notifyFire i c).modifyWatch i f = (s.modifyWatch i f).notifyFire i c := by
  rw [State.notifyFire, State.notifyFire]
  split
  · exact post_modifyWatch ..
  · rfl

theorem fired_modifyWatch (s : State) (i : Fin 32) (w : Watch) (reference : Option Sweep) (f : Watch → Watch) :
    (s.fired i w reference).modifyWatch i f =
      { s.fired i w reference with watches := setAt s.watches i (some (f (w.firedOnce reference))) } := by
  rw [State.modifyWatch]
  simp only [State.fired, getElem_setAt_self, setAt_setAt, Option.map_some]

theorem post_keeps (h : Keeps s t) (kind : NoticeKind) (subject : Nat) (cls : SubjectClass) :
    Keeps s (t.post kind subject cls) :=
  ⟨(State.post_strap ..).trans h.strap, by rw [State.post_port, ← h.port]⟩

theorem notifyFire_keeps (h : Keeps s t) (i : Fin 32) (c : Contents) : Keeps s (t.notifyFire i c) := by
  rw [State.notifyFire]
  split
  · exact post_keeps h _ _ _
  · exact h

theorem notifyFire_session (s : State) (i : Fin 32) (c : Contents) : (s.notifyFire i c).session = s.session := by
  rw [State.notifyFire]
  split
  · exact State.post_session ..
  · rfl

theorem notifyFire_watches (s : State) (i : Fin 32) (c : Contents) : (s.notifyFire i c).watches = s.watches := by
  rw [State.notifyFire]
  split
  · exact State.post_watches ..
  · rfl

/-! ### The fire, case by case -/

theorem idleContext_first (hj : s.contexts[j] = none) (hlow : ∀ l : Fin 4, l < j → (s.contexts[l]).isSome = true) :
    s.idleContext = some j :=
  find?_finRange (by rw [hj]; rfl) fun l hl => by rw [← Option.not_isSome, hlow l hl]; rfl

theorem idleContext_exists (hj : s.contexts[j] = none) : ∃ l, s.idleContext = some l := by
  rw [← Option.isSome_iff_exists, State.idleContext, List.find?_isSome]
  exact ⟨j, List.mem_finRange j, by rw [hj]; rfl⟩

theorem idleContext_none (h : ∀ l : Fin 4, (s.contexts[l]).isSome = true) : s.idleContext = none := by
  rw [State.idleContext, List.find?_eq_none]
  intro l _
  rw [← Option.not_isSome, h l]
  decide

theorem fire_bare (hw : s.watches[i] = some w) (hp : w.contents.profile = none) (reference : Option Sweep)
    (o : Option Arrival) : s.fire i reference o = (.taken none false,
      ((s.takeFire i w.contents reference).notifyFire i w.contents).modifyWatch i Watch.endStep) := by
  rw [State.fire, hw]
  simp only [hp]

theorem fire_refused (hw : s.watches[i] = some w) (hp : w.contents.profile = some p) (hidle : s.idleContext = none)
    (reference : Option Sweep) (o : Option Arrival) : s.fire i reference o = (.refused, s.refuseFire i) := by
  rw [State.fire, hw]
  simp only [hp, hidle]

theorem fire_opening (hw : s.watches[i] = some w) (hp : w.contents.profile = some p) (hidle : s.idleContext = some j)
    {reference : Option Sweep} {o : Option Arrival} {granted : Bool} {u : State}
    (hcapture : (s.takeFire i w.contents reference).fireCapture i w.contents p j reference o = (granted, u)) :
    s.fire i reference o = (.taken (if granted then some j else none) (!granted), u) := by
  rw [State.fire, hw]
  simp only [hp, hidle, hcapture]

theorem fireCapture_unnotified {c : Contents} (h : c.notify = false) (s : State) (i : Fin 32) (p : Fin 8) (j : Fin 4)
    (reference : Option Sweep) (o : Option Arrival) :
    s.fireCapture i c p j reference o = s.openCapture j i p reference o := by
  simp [State.fireCapture, State.notifyFirst, State.notifyFire, h]

/-! ### FORCE -/

theorem doForce_unarmed (h : s.admits r .force) (hi : r.number 0 = i.val)
    (hw : ∀ w, s.watches[i] = some w → w.state ≠ .armed) :
    doForce (callOf r) s = (.other .state [BitVec.ofNat 16 (watchCode s.watches[i])], s) := by
  have harmed : isArmed s.watches[i] = false := by
    rw [← Bool.not_eq_true, isArmed_iff]
    rintro ⟨w, hsome, hs⟩
    exact hw w hsome hs
  refine (withWatch_index h (by decide) hi _).trans ?_
  rw [harmed]
  rfl

theorem doForce_armed (h : s.admits r .force) (hi : r.number 0 = i.val) (hw : s.watches[i] = some w)
    (hs : w.state = .armed) {outcome : FireOutcome} {u : State}
    (hfire : s.fire i s.receiver.expected none = (outcome, u)) :
    doForce (callOf r) s =
      (.ok (BitVec.ofNat 16 i.val :: (outcome.items ++ [BitVec.ofNat 16 (u.watchCode i)])), u) := by
  have harmed : isArmed s.watches[i] = true := isArmed_iff.2 ⟨w, hw, hs⟩
  refine (withWatch_index h (by decide) hi _).trans ?_
  rw [if_pos harmed, hfire]
  rfl

/-- FORCE of an ARMED watch, by what its fire makes of the state (R73). -/
theorem exec_force (h : s.permits r .force) (hi : r.number 0 = i.val) (hw : s.watches[i] = some w)
    (hs : w.state = .armed) {outcome : FireOutcome} {u : State}
    (hfire : s.fire i s.receiver.expected none = (outcome, u)) (hk : Keeps s u) (hsession : u.session = s.session) :
    exec (.force r) s = .next (s.controlled u r .force
      (.ok (BitVec.ofNat 16 i.val :: (outcome.items ++ [BitVec.ofNat 16 (u.watchCode i)])))) :=
  congrArg Host.Outcome.next (State.control_answered h (by decide) (by decide) rfl (doForce_armed h.1 hi hw hs hfire) hk
    (congrArg Session.holder hsession))

/-- No segment is to be had: none is FREE, and none may or can be reclaimed (R110). -/
theorem allocate_none {prof : Profile} (htaken : ∀ g : Fin 64, g.val < s.ring.segCount → (s.ring.segs[g]).isSome = true)
    (hnone : prof.policy = .refuse ∨ ∀ g ∈ s.ring.completed, ∀ x, s.ring.segs[g] = some x → x.state ≠ .full)
    (j : Fin 4) (sequence : BitVec 32) : s.allocate j sequence prof = none := by
  rw [State.allocate, find?_fromCursor_none htaken]
  dsimp only
  cases hp : prof.policy with
  | refuse => rfl
  | overwrite =>
    have hall := hnone.resolve_left (by rw [hp]; decide)
    have hfind : s.ring.completed.find? (fun g => s.ring.isFull g) = none :=
      List.find?_eq_none.2 fun g hg => by rw [isFull_eq_false (hall g hg)]; decide
    rw [hfind]

theorem openCapture_lost {prof : Profile} (hprof : s.profiles[p] = some prof)
    (hnone : s.allocate j (s.captureSeq + 1) prof = none) (i : Fin 32) (trigger : Option Sweep) (o : Option Arrival) :
    s.openCapture j i p trigger o = (false, s.captureLost i) := by
  rw [State.openCapture, hprof]
  simp only [hnone]

theorem captureLost_eq (s : State) (i : Fin 32) : s.captureLost i =
    { (s.bump .capturesLost 1).post .captureLost i.val .watch with
      watches := setAt s.watches i ((s.watches[i]).map Watch.endStep) } := by
  rw [State.captureLost, State.modifyWatch, State.post_watches]
  rfl

/-- Settles O8: the fire without a profile, with its capture lost, and refused (R68 to R73). -/
theorem forceFiresOrRefuses : Obligations.ForceFiresOrRefuses := by
  unfold Obligations.ForceFiresOrRefuses
  refine ⟨fun s r i w h hi hw hs hp => ?_, fun s r h hi => ?_, ?_,
    fun s r i h hi => ⟨fun hw => ?_, fun w p hw hs hp hall => ?_⟩⟩
  · have hup : s.port.link = .up := h.1.1.1.2.1
    let u := State.notifyFire { s.fired i w s.receiver.expected with
      watches := setAt s.watches i (some (w.firedOnce s.receiver.expected).endStep) } i w.contents
    have hfire : s.fire i s.receiver.expected none = (.taken none false, u) := by
      rw [fire_bare hw hp, takeFire_eq hup hw, notifyFire_modifyWatch, fired_modifyWatch]
    have hcode : u.watchCode i = watchCode (some (w.firedOnce s.receiver.expected).endStep) := by
      rw [State.watchCode, notifyFire_watches, getElem_setAt_self]
    have hexec := exec_force h hi hw hs hfire (notifyFire_keeps (by exact ⟨rfl, rfl⟩) i _) (notifyFire_session _ _ _)
    rw [hcode] at hexec
    exact hexec
  · exact congrArg Host.Outcome.next (State.control_refused h (by decide) (by decide) rfl
      (withWatch_range h.1 (by decide) hi _))
  · intro s r i w p prof k h hi hw hs hquiet hp hprof hk hcount htaken hnone fired t
    have hup : s.port.link = .up := h.1.1.1.2.1
    obtain ⟨j, hj⟩ := idleContext_exists hk
    let u : State := { t.post .captureLost i.val .watch with watches := setAt s.watches i (some fired.endStep) }
    have hlost : (s.fired i w s.receiver.expected).captureLost i = u := by
      have hcounter : (s.fired i w s.receiver.expected).counter .capturesLost = s.counter .capturesLost :=
        getElem_setAt_ne _ (by decide : Counter.fires.index ≠ Counter.capturesLost.index) _
      have hwatches : setAt (s.fired i w s.receiver.expected).watches i
          (((s.fired i w s.receiver.expected).watches[i]).map Watch.endStep) = setAt s.watches i (some fired.endStep) := by
        simp only [State.fired, getElem_setAt_self, setAt_setAt, Option.map_some]
        rfl
      rw [captureLost_eq, hwatches, State.bump, hcounter, post_withWatches]
      exact (post_withWatches t _ _ _ _).symm
    have hcapture : (s.takeFire i w.contents s.receiver.expected).fireCapture i w.contents p j s.receiver.expected none =
        (false, u) := by
      rw [takeFire_eq hup hw, fireCapture_unnotified hquiet, openCapture_lost (s := s.fired i w s.receiver.expected) hprof
        (allocate_none (s := s.fired i w s.receiver.expected) htaken hnone _ _), hlost]
    have hcode : u.watchCode i = watchCode (some fired.endStep) := by
      rw [State.watchCode, getElem_setAt_self]
    have hexec := exec_force h hi hw hs (fire_opening hw hp hj hcapture) ⟨by simp [u, t], by simp [u, t]⟩
      (by simp [u, t])
    rw [hcode] at hexec
    exact hexec
  · exact congrArg Host.Outcome.next (State.control_refused h (by decide) (by decide) rfl (doForce_unarmed h.1 hi hw))
  · have hrefused : s.refuseFire i = ({ s with
          counters := setAt s.counters Counter.firesRefused.index (satAdd (s.counter .firesRefused) 1)
          watches := setAt s.watches i (some w.refusedOnce) } : State).post .watchRefused i.val .watch := by
      rw [State.refuseFire, State.modifyWatch, show (s.bump .firesRefused 1).watches[i] = some w from hw]
      rfl
    have hexec := exec_force h hi hw hs (fire_refused hw hp (idleContext_none hall) _ _)
      (by rw [hrefused]; exact post_keeps (by exact ⟨rfl, rfl⟩) _ _ _) (by rw [hrefused, State.post_session])
    have hcode : (s.refuseFire i).watchCode i = 2 := by
      rw [State.watchCode, hrefused, State.post_watches, getElem_setAt_self]
      rw [watchCode, Watch.refusedOnce, hs]
    rw [hcode, hrefused] at hexec
    exact hexec

end Sys2Proof.Machine
end

section
/-! The notice unit: the change of sink, a resend timer's run-out, the offer of an IDLE (R16, R130 to R136). -/

namespace Sys2Proof.Machine

variable {s : State} {q before after : List Notice} {n : Notice} {x : Sent}

/-! ### An entry at its place -/

theorem findIdx?_middle {α : Type} {p : α → Bool} {before after : List α} {a : α} (hbefore : ∀ b ∈ before, p b = false)
    (ha : p a = true) : (before ++ a :: after).findIdx? p = some before.length := by
  rw [List.findIdx?_append, List.findIdx?_eq_none_iff.2 hbefore]
  simp [List.findIdx?_cons, ha]

theorem getElem?_middle {α : Type} (before after : List α) (a : α) : (before ++ a :: after)[before.length]? = some a := by
  simp

theorem modify_middle {α : Type} (before after : List α) (a : α) (f : α → α) :
    (before ++ a :: after).modify before.length f = before ++ f a :: after := by
  induction before with
  | nil => rfl
  | cons b rest ih => simpa using ih

theorem eraseIdx_middle {α : Type} (before after : List α) (a : α) :
    (before ++ a :: after).eraseIdx before.length = before ++ after := by
  simp [List.eraseIdx_append_of_length_le]

/-! ### The change of sink -/

/-- What entries that merge have in common (R125, R136). -/
def Notice.key (n : Notice) : NoticeKind × Nat × SubjectClass := (n.kind, n.subject, n.cls)

theorem Notice.sameAs_iff {m : Notice} : n.sameAs m = true ↔ m.key = n.key := by
  rw [Notice.sameAs, Notice.key, Notice.key, Bool.and_eq_true, Bool.and_eq_true, decide_eq_true_iff, decide_eq_true_iff,
    decide_eq_true_iff, Prod.mk.injEq, Prod.mk.injEq, and_assoc, eq_comm, eq_comm (a := n.subject), eq_comm (a := n.cls)]

/-- An older QUEUED entry of the same key takes the younger one up (R136). -/
theorem mergeInto_known {m : Notice} (hbefore : ∀ a ∈ before, a.key ≠ n.key) (hm : m.sent = none) (hkey : m.key = n.key) :
    mergeInto (before ++ m :: after) n = before ++ { m with repeats := min (m.repeats + n.repeats) 255 } :: after := by
  have hplace : (before ++ m :: after).findIdx? (fun m => m.queued && n.sameAs m) = some before.length := by
    refine findIdx?_middle (fun a ha => ?_) (by simp [Notice.queued, hm, Notice.sameAs_iff.2 hkey])
    rw [Bool.eq_false_iff.2 fun h => hbefore a ha (Notice.sameAs_iff.1 h), Bool.and_false]
  rw [mergeInto, hplace]
  exact modify_middle before after m _

theorem mergeInto_new (hnew : n.key ∉ q.map Notice.key) : mergeInto q n = q ++ [n] := by
  have hnone : q.findIdx? (fun m => m.queued && n.sameAs m) = none :=
    List.findIdx?_eq_none_iff.2 fun a ha => by
      have hsame : n.sameAs a = false :=
        Bool.eq_false_iff.2 fun h => hnew (List.mem_map.2 ⟨a, ha, Notice.sameAs_iff.1 h⟩)
      rw [hsame, Bool.and_false]
  rw [mergeInto, hnone]

/-- The repeat counts of the entries of one key, summed. -/
def repeatsOf (q : List Notice) (key : NoticeKind × Nat × SubjectClass) : Nat :=
  ((q.filter fun m => m.key = key).map Notice.repeats).sum

theorem repeatsOf_append_same : repeatsOf (q ++ [n]) n.key = repeatsOf q n.key + n.repeats := by
  simp [repeatsOf]

theorem repeatsOf_append_other {key : NoticeKind × Nat × SubjectClass} (h : n.key ≠ key) :
    repeatsOf (q ++ [n]) key = repeatsOf q key := by
  simp [repeatsOf, h]

theorem repeatsOf_new {key : NoticeKind × Nat × SubjectClass} (h : key ∉ q.map Notice.key) : repeatsOf q key = 0 := by
  have hnone : q.filter (fun m => m.key = key) = [] :=
    List.filter_eq_nil_iff.2 fun m hm => by simpa using fun hkey => h (List.mem_map.2 ⟨m, hm, hkey⟩)
  simp [repeatsOf, hnone]

/-- What a change of sink leaves of a queue (R136). -/
structure Merged (q out : List Notice) : Prop where
  queued : ∀ m ∈ out, m.sent = none
  keys : out.map Notice.key = (q.map Notice.key).reverse.dedup.reverse
  sums : (∀ m ∈ q, m.repeats ≤ 255) → ∀ m ∈ out, m.repeats = min 255 (repeatsOf q m.key)

theorem Merged.mem_keys {out : List Notice} (h : Merged q out) {key : NoticeKind × Nat × SubjectClass} :
    key ∈ out.map Notice.key ↔ key ∈ q.map Notice.key := by
  rw [h.keys]
  simp

theorem Merged.new {out : List Notice} (h : Merged q out) (hnew : n.key ∉ out.map Notice.key) :
    Merged (q ++ [n]) (out ++ [n.requeued]) where
  queued := by
    intro m hm
    obtain hm | rfl : m ∈ out ∨ m = n.requeued := by simpa using hm
    · exact h.queued m hm
    · rfl
  keys := by
    have hq : n.key ∉ (q.map Notice.key).reverse := by
      simpa using fun m hm hkey => (h.mem_keys.not.1 hnew) (List.mem_map.2 ⟨m, hm, hkey⟩)
    rw [List.map_append, h.keys, List.map_append, List.map_singleton, List.map_singleton, List.reverse_append,
      List.reverse_singleton, List.singleton_append, List.dedup_cons_of_notMem hq, List.reverse_cons]
    rfl
  sums := by
    intro hle m hm
    obtain hm | rfl : m ∈ out ∨ m = n.requeued := by simpa using hm
    · have hother : n.key ≠ m.key := fun hkey => hnew (hkey ▸ List.mem_map_of_mem hm)
      rw [repeatsOf_append_other hother]
      exact h.sums (fun a ha => hle a (List.mem_append_left _ ha)) m hm
    · have hn : n.repeats ≤ 255 := hle n (by simp)
      have hsum : repeatsOf (q ++ [n]) n.requeued.key = n.repeats := by
        rw [show n.requeued.key = n.key from rfl, repeatsOf_append_same, repeatsOf_new (h.mem_keys.not.1 hnew), Nat.zero_add]
      rw [hsum, Nat.min_eq_right hn]
      rfl

theorem Merged.known {m : Notice} (h : Merged q (before ++ m :: after)) (hkey : m.key = n.key) :
    Merged (q ++ [n]) (before ++ { m with repeats := min (m.repeats + n.repeats) 255 } :: after) := by
  have hnodup : ((before ++ m :: after).map Notice.key).Nodup := by
    rw [h.keys, List.nodup_reverse]
    exact List.nodup_dedup _
  have hother : ∀ a ∈ before ++ after, a.key ≠ n.key := by
    rw [List.map_append, List.map_cons, List.nodup_middle, List.nodup_cons, ← List.map_append, hkey] at hnodup
    exact fun a ha hn => hnodup.1 (hn ▸ List.mem_map_of_mem ha)
  have hmem : ∀ a, a ∈ before ++ { m with repeats := min (m.repeats + n.repeats) 255 } :: after →
      a = { m with repeats := min (m.repeats + n.repeats) 255 } ∨ a ∈ before ++ after := by
    intro a ha
    simpa [or_left_comm] using ha
  have hm : m ∈ before ++ m :: after := by simp
  have hold : ∀ a ∈ before ++ after, a ∈ before ++ m :: after := by
    intro a ha
    rw [List.mem_append] at ha
    simpa using ha.imp_right .inr
  refine ⟨fun a ha => ?_, ?_, fun hle a ha => ?_⟩
  · obtain rfl | ha := hmem a ha
    · exact h.queued m hm
    · exact h.queued a (hold a ha)
  · have hq : n.key ∈ (q.map Notice.key).reverse := by
      rw [List.mem_reverse, ← h.mem_keys, ← hkey]
      exact List.mem_map_of_mem hm
    have hkeys := h.keys
    rw [List.map_append, List.map_cons] at hkeys ⊢
    rw [List.map_append, List.map_singleton, List.reverse_append, List.reverse_singleton, List.singleton_append,
      List.dedup_cons_of_mem hq, ← hkeys]
    rfl
  · have hle' : ∀ a ∈ q, a.repeats ≤ 255 := fun a ha => hle a (List.mem_append_left _ ha)
    obtain rfl | ha := hmem a ha
    · have hsum := h.sums hle' m hm
      rw [hkey] at hsum
      rw [show Notice.key { m with repeats := min (m.repeats + n.repeats) 255 } = n.key from hkey, repeatsOf_append_same]
      simp only [hsum]
      omega
    · rw [repeatsOf_append_other (hother a ha).symm]
      exact h.sums hle' a (hold a ha)

/-- The first entry of a key that a queue holds. -/
theorem split_at_key (h : n.key ∈ q.map Notice.key) :
    ∃ before m after, q = before ++ m :: after ∧ m.key = n.key ∧ ∀ a ∈ before, a.key ≠ n.key := by
  obtain ⟨m, hm, hkey⟩ := List.mem_map.1 h
  obtain ⟨m, hfind⟩ := Option.isSome_iff_exists.1
    (List.find?_isSome (p := fun m => decide (m.key = n.key)).2 ⟨m, hm, by simpa using hkey⟩)
  obtain ⟨hp, before, after, rfl, hbefore⟩ := List.find?_eq_some_iff_append.1 hfind
  exact ⟨before, m, after, rfl, by simpa using hp, fun a ha => by simpa using hbefore a ha⟩

theorem requeue_append (q : List Notice) (n : Notice) : requeue (q ++ [n]) = mergeInto (requeue q) n.requeued := by
  simp [requeue]

theorem merged_requeue (q : List Notice) : Merged q (requeue q) := by
  induction q using List.reverseRecOn with
  | nil => exact ⟨by simp [requeue], rfl, by simp [requeue]⟩
  | append_singleton q n ih =>
    rw [requeue_append]
    by_cases hknown : n.key ∈ (requeue q).map Notice.key
    · obtain ⟨before, m, after, hq, hkey, hbefore⟩ := split_at_key hknown
      rw [hq] at ih ⊢
      rw [mergeInto_known (n := n.requeued) hbefore (ih.queued m (by simp)) hkey]
      exact ih.known hkey
    · rw [mergeInto_new (n := n.requeued) hknown]
      exact ih.new hknown

/-- Settles O40: entries are taken oldest first, each merged into the one of its key or added at the young end. -/
theorem sinkChangeMerges : Obligations.SinkChangeMerges := by
  unfold Obligations.SinkChangeMerges
  intro q key
  have hmerged := merged_requeue q
  exact ⟨hmerged.queued, hmerged.keys, hmerged.sums⟩

/-! ### The run-out of a resend timer -/

theorem bears_of_sent (hx : n.sent = some x) (number : BitVec 8) : n.bears number = (x.number == number) := by
  simp [Notice.bears, hx]

theorem bears_false {number : BitVec 8} (h : ∀ y : Sent, n.sent = some y → y.number ≠ number) : n.bears number = false := by
  cases hn : n.sent with
  | none => simp [Notice.bears, hn]
  | some y => simpa [bears_of_sent hn] using h y hn

/-- Settles O30: the entry that bears the number is the first one that does, and its resends decide. -/
theorem resendRunsOut : Obligations.ResendRunsOut := by
  unfold Obligations.ResendRunsOut
  intro s number before after n x left hlow hq hx hnumber htimer hbefore
  have hplace : s.notices.queue.findIdx? (Notice.bears number) = some before.length := by
    rw [hq]
    exact findIdx?_middle (fun m hm => bears_false fun y hy => hbefore m y hm hy) (by simp [bears_of_sent hx, hnumber])
  have hentry : s.notices.queue[before.length]?.bind Notice.sent = some x := by
    rw [hq, getElem?_middle]
    exact hx
  have hexec : exec (.resendTimerRunOut number) s = .next (if s.params.noticeLimit ≤ x.resends then
      (s.setQueue (s.notices.queue.eraseIdx before.length)).bump .noticesExpired 1
      else s.setQueue (s.notices.queue.modify before.length fun n => { n with sent := n.sent.map Sent.runOut })) := by
    change Host.Outcome.next (if s.resetLow then s else s.resendRunsOut number) = _
    rw [hlow]
    simp only [Bool.false_eq_true, if_false, State.resendRunsOut, hplace, hentry, htimer]
  rw [hexec]
  constructor
  · intro hleft
    rw [if_neg (by omega), hq, modify_middle, hx]
    rfl
  · intro hlimit
    rw [if_pos hlimit, hq, eraseIdx_middle]
    rfl

/-! ### The offer of an IDLE -/

theorem foldl_min_eq {m y : Nat} {rest : List Nat} (hmem : m ∈ y :: rest) (hle : ∀ a ∈ y :: rest, m ≤ a) :
    rest.foldl min y = m := by
  have h : (y :: rest).min? = some m := List.min?_eq_some_iff.2 ⟨hmem, hle⟩
  rwa [List.min?_cons', Option.some.injEq] at h

theorem foldl_max_eq {m y : Nat} {rest : List Nat} (hmem : m ∈ y :: rest) (hle : ∀ a ∈ y :: rest, a ≤ m) :
    rest.foldl max y = m := by
  have h : (y :: rest).max? = some m := List.max?_eq_some_iff.2 ⟨hmem, hle⟩
  rwa [List.max?_cons', Option.some.injEq] at h

theorem isDue_iff : n.isDue = true ↔ ∃ y, n.sent = some y ∧ y.due = true := by
  cases hn : n.sent <;> simp [Notice.isDue, hn]

theorem stamp_of_sent (hx : n.sent = some x) : n.stamp = x.order := by
  simp [Notice.stamp, hx]

/-- The due entry whose stamp is the first least one is the one offered (R130). -/
theorem duePlace_middle (hdue : n.isDue = true)
    (hbefore : ∀ m ∈ before, m.isDue = true → n.stamp < m.stamp) (hafter : ∀ m ∈ after, m.isDue = true → n.stamp ≤ m.stamp) :
    duePlace (before ++ n :: after) = some before.length := by
  have hmem : n.stamp ∈ ((before ++ n :: after).filter Notice.isDue).map Notice.stamp :=
    List.mem_map.2 ⟨n, by simp [hdue], rfl⟩
  have hle : ∀ a ∈ ((before ++ n :: after).filter Notice.isDue).map Notice.stamp, n.stamp ≤ a := by
    intro a ha
    obtain ⟨m, hm, rfl⟩ := List.mem_map.1 ha
    obtain ⟨hm, hmdue⟩ := List.mem_filter.1 hm
    obtain hm | rfl | hm : m ∈ before ∨ m = n ∨ m ∈ after := by simpa using hm
    · exact (hbefore m hm hmdue).le
    · exact le_rfl
    · exact hafter m hm hmdue
  rw [duePlace]
  split
  case h_1 hnil => exact absurd (hnil ▸ hmem) List.not_mem_nil
  case h_2 y rest hcons =>
    rw [foldl_min_eq (hcons ▸ hmem) (hcons ▸ hle)]
    refine findIdx?_middle (fun m hm => ?_) (by simp [hdue])
    by_cases hmdue : m.isDue = true
    · simp [hmdue, (hbefore m hm hmdue).ne']
    · simp [hmdue]

theorem duePlace_none (h : ∀ m ∈ q, m.isDue = false) : duePlace q = none := by
  have hnil : q.filter Notice.isDue = [] := List.filter_eq_nil_iff.2 fun m hm => by simp [h m hm]
  rw [duePlace, hnil]
  rfl

theorem queuedPlace_middle (hn : n.sent = none)
    (hbefore : ∀ m ∈ before, m.sent = none → m.kind.priority < n.kind.priority)
    (hafter : ∀ m ∈ after, m.sent = none → m.kind.priority ≤ n.kind.priority) :
    queuedPlace (before ++ n :: after) = some before.length := by
  have hqueued : ∀ m : Notice, m.queued = true ↔ m.sent = none := fun m => Option.isNone_iff_eq_none
  have hmem : n.kind.priority ∈ ((before ++ n :: after).filter Notice.queued).map (·.kind.priority) :=
    List.mem_map.2 ⟨n, by simp [(hqueued n).2 hn], rfl⟩
  have hle : ∀ a ∈ ((before ++ n :: after).filter Notice.queued).map (·.kind.priority), a ≤ n.kind.priority := by
    intro a ha
    obtain ⟨m, hm, rfl⟩ := List.mem_map.1 ha
    obtain ⟨hm, hmq⟩ := List.mem_filter.1 hm
    obtain hm | rfl | hm : m ∈ before ∨ m = n ∨ m ∈ after := by simpa using hm
    · exact (hbefore m hm ((hqueued m).1 hmq)).le
    · exact le_rfl
    · exact hafter m hm ((hqueued m).1 hmq)
  rw [queuedPlace]
  split
  case h_1 hnil => exact absurd (hnil ▸ hmem) List.not_mem_nil
  case h_2 y rest hcons =>
    rw [foldl_max_eq (hcons ▸ hmem) (hcons ▸ hle)]
    refine findIdx?_middle (fun m hm => ?_) (by simp [(hqueued n).2 hn])
    by_cases hmq : m.queued = true
    · simp [hmq, (hbefore m hm ((hqueued m).1 hmq)).ne]
    · simp [hmq]

theorem queuedPlace_none (h : ∀ m ∈ q, m.sent ≠ none) : queuedPlace q = none := by
  have hnil : q.filter Notice.queued = [] :=
    List.filter_eq_nil_iff.2 fun m hm => by simpa [Notice.queued] using h m hm
  rw [queuedPlace, hnil]
  rfl

/-- The first number from `next` on that no SENT entry bears (R131). -/
theorem freeNumber_first {next number : BitVec 8} (hfree : ∀ m ∈ q, m.bears number = false)
    (hheld : ∀ y : BitVec 8, (y - next).toNat < (number - next).toNat → ∃ m ∈ q, m.bears y = true) :
    freeNumber next q = number := by
  have hback : next + BitVec.ofNat 8 (number - next).toNat = number := by
    rw [BitVec.ofNat_toNat, BitVec.setWidth_eq, add_sub_cancel]
  have hfind : (List.range 256).find? (fun k => !(q.any (Notice.bears (next + BitVec.ofNat 8 k)))) =
      some (number - next).toNat := by
    refine List.find?_range_eq_some.2 ⟨?_, List.mem_range.2 (number - next).isLt, fun k hk => ?_⟩
    · rw [hback, Bool.not_eq_true', List.any_eq_false]
      exact fun m hm => by simp [hfree m hm]
    · have hlt := (number - next).isLt
      obtain ⟨m, hm, hbears⟩ := hheld (next + BitVec.ofNat 8 k) (by
        rw [add_sub_cancel_left, BitVec.toNat_ofNat, Nat.mod_eq_of_lt (by omega)]
        exact hk)
      rw [Bool.not_not, List.any_eq_true]
      exact ⟨m, hm, hbears⟩
  rw [freeNumber, hfind]
  exact hback

theorem noticeFlags_eq (overflow : Bool) (n : Notice) : noticeFlags overflow n =
    (if overflow then 1 else 0) ||| (if n.kind = .captureLost ∧ n.cls = .segment then 2 else 0) := by
  by_cases h1 : n.kind = .captureLost <;> by_cases h2 : n.cls = .segment <;> cases overflow <;>
    simp [noticeFlags, h1, h2, bitAt]

theorem sentCount_filter : sentCount q = (q.filter fun m => m.sent.isSome).length :=
  List.countP_eq_length_filter

theorem exec_idleOffer (h : Header) (second : Word) (padding : List Word) (hh : s.hears) (h1 : 13 ≤ padding.length)
    (h2 : padding.length ≤ 261) : exec (.idleOffer h second padding) s = .next
      (s.countValid.offer.2.emit (.frame (s.countValid.offer.1.getD (withCrc (plainWords .idle h second padding))))) :=
  congrArg Host.Outcome.next (s.idle_routed h second padding hh h1 h2)

theorem State.offer_resends (hq : s.notices.queue = before ++ n :: after)
    (hplace : duePlace s.notices.queue = some before.length) (hx : n.sent = some x) :
    s.offer = (some (s.noticeFrame n x.number), { s with notices := { s.notices with
      queue := before ++ { n with sent := some (x.resent s.resendTicks) } :: after, overflow := false } }) := by
  have hentry : s.notices.queue[before.length]? = some n := by rw [hq, getElem?_middle]
  have hnumber : n.number = x.number := by simp [Notice.number, hx]
  rw [State.offer, hplace]
  simp only [hentry, hnumber, State.resendAt]
  rw [hq, modify_middle, hx]
  rfl

theorem State.offer_sends_first (hq : s.notices.queue = before ++ n :: after) (hdue : duePlace s.notices.queue = none)
    (hsent : sentCount s.notices.queue < Config.maxSent) (hplace : queuedPlace s.notices.queue = some before.length) :
    s.offer = (some (s.noticeFrame n (freeNumber s.notices.nextNumber s.notices.queue)), { s with
      notices := {
        queue := before ++ n.sentAs (s.firstSent (freeNumber s.notices.nextNumber s.notices.queue)) :: after
        nextNumber := freeNumber s.notices.nextNumber s.notices.queue + 1
        overflow := false
        sends := s.notices.sends + 1 } }) := by
  have hentry : s.notices.queue[before.length]? = some n := by rw [hq, getElem?_middle]
  have hqueue := modify_middle before after n
    (Notice.sentAs (s.firstSent (freeNumber s.notices.nextNumber s.notices.queue)))
  rw [← hq] at hqueue
  rw [State.offer, hdue]
  simp only [hsent, if_true, hplace, hentry, ← hqueue]
  rfl

theorem State.offer_nothing (hdue : duePlace s.notices.queue = none)
    (h : Config.maxSent ≤ sentCount s.notices.queue ∨ queuedPlace s.notices.queue = none) : s.offer = (none, s) := by
  rw [State.offer, hdue]
  obtain hfull | hnone := h
  · simp only [if_neg (Nat.not_lt.2 hfull)]
  · simp only [hnone, ite_self]

/-- Settles O29: a due entry first, then the first send of the oldest entry of the highest priority, else nothing. -/
theorem offerSendsNotice : Obligations.OfferSendsNotice := by
  unfold Obligations.OfferSendsNotice
  intro s h second padding hh h1 h2 idle ticks sent frame
  rw [exec_idleOffer h second padding hh h1 h2]
  have hframe (n : Notice) (number : BitVec 8) : s.countValid.noticeFrame n number = frame n number := by
    rw [State.noticeFrame, noticeFlags_eq]
    rfl
  refine ⟨fun before after n x hq hx hdue hbefore hafter => ?_,
    fun hnone => ⟨fun before after n number hq hn hsent hbefore hafter hfree hheld => ?_, fun hidle => ?_⟩⟩
  · have hplace : duePlace s.countValid.notices.queue = some before.length := by
      change duePlace s.notices.queue = _
      rw [hq]
      refine duePlace_middle (isDue_iff.2 ⟨x, hx, hdue⟩) (fun m hm hmdue => ?_) fun m hm hmdue => ?_
      · obtain ⟨y, hy, hydue⟩ := isDue_iff.1 hmdue
        rw [stamp_of_sent hx, stamp_of_sent hy]
        exact hbefore m y hm hy hydue
      · obtain ⟨y, hy, hydue⟩ := isDue_iff.1 hmdue
        rw [stamp_of_sent hx, stamp_of_sent hy]
        exact hafter m y hm hy hydue
    rw [State.offer_resends (s := s.countValid) hq hplace hx, hframe]
    rfl
  · have hdue : duePlace s.countValid.notices.queue = none := duePlace_none fun m hm => by
      cases hm' : m.sent with
      | none => simp [Notice.isDue, hm']
      | some y => simpa [Notice.isDue, hm'] using hnone m y hm hm'
    have hplace : queuedPlace s.countValid.notices.queue = some before.length := by
      change queuedPlace s.notices.queue = _
      rw [hq]
      exact queuedPlace_middle hn hbefore hafter
    have hnumber : freeNumber s.countValid.notices.nextNumber s.countValid.notices.queue = number :=
      freeNumber_first (fun m hm => bears_false fun y hy => hfree m y hm hy) fun y hy => by
        obtain ⟨m, z, hm, hz, rfl⟩ := hheld y hy
        exact ⟨m, hm, by simp [bears_of_sent hz]⟩
    rw [State.offer_sends_first (s := s.countValid) hq hdue (by rw [sentCount_filter]; exact hsent) hplace, hnumber, hframe]
    rfl
  · have hdue : duePlace s.countValid.notices.queue = none := duePlace_none fun m hm => by
      cases hm' : m.sent with
      | none => simp [Notice.isDue, hm']
      | some y => simpa [Notice.isDue, hm'] using hnone m y hm hm'
    rw [State.offer_nothing (s := s.countValid) hdue
      (hidle.imp (fun hfull => by rw [sentCount_filter]; exact hfull) queuedPlace_none)]
    rfl

end Sys2Proof.Machine
end

section
/-! Occasions outside a sweep: applied events and edges, with the fire of the one watch that looks for them (R62 to R71,
R143, R147, R151 to R153). -/

namespace Sys2Proof.Machine

variable {s t : State} {i j : Fin 32} {w : Watch} {meets : Condition → Bool}

/-! ### A fire without an action profile, at any link state -/

theorem requestMark_eq (s : State) (o : Option (Fin 16)) : s.requestMark o = { s with port := { s.port with
    markWord := if s.port.link = .up then s.port.markWord ||| askedMark o else s.port.markWord } } := by
  cases o with
  | none =>
    have hmark : (if s.port.link = .up then s.port.markWord ||| askedMark none else s.port.markWord) = s.port.markWord := by
      rw [show s.port.markWord ||| askedMark none = s.port.markWord from BitVec.or_zero, ite_self]
    rw [hmark]
    rfl
  | some m =>
    by_cases hup : s.port.link = .up
    · exact (if_pos hup).trans (by rw [if_pos hup]; rfl)
    · exact (if_neg hup).trans (by rw [if_neg hup])

/-- The state after a fire that opens no capture, its end step taken, less its notice (R69, R71). -/
def State.served (s : State) (i : Fin 32) (w : Watch) (reference : Option Sweep) : State :=
  { s with
    counters := setAt s.counters Counter.fires.index (satAdd (s.counter .fires) 1)
    watches := setAt s.watches i (some (w.firedOnce reference).endStep)
    port := { s.port with
      markWord := if s.port.link = .up then s.port.markWord ||| askedMark w.contents.markCode else s.port.markWord }
    lines := { s.lines with
      tout0 := startPulse w.contents.pulse.l0 s.lines.tout0, tout1 := startPulse w.contents.pulse.l1 s.lines.tout1 } }

theorem takeFire_endStep (hw : s.watches[i] = some w) (reference : Option Sweep) :
    (s.takeFire i w.contents reference).modifyWatch i Watch.endStep = s.served i w reference := by
  rw [State.takeFire, requestMark_eq, State.modifyWatch, State.modifyWatch, show (s.bump .fires 1).watches[i] = some w from hw]
  simp only [State.requestPulse, getElem_setAt_self, setAt_setAt, Option.map_some]
  rfl

theorem fire_served (hw : s.watches[i] = some w) (hp : w.contents.profile = none) (reference : Option Sweep)
    (o : Option Arrival) : (s.fire i reference o).2 = (s.served i w reference).notifyFire i w.contents := by
  rw [fire_bare hw hp]
  exact (notifyFire_modifyWatch ..).trans (by rw [takeFire_endStep hw])

theorem fire_served_watches (hw : s.watches[i] = some w) (hp : w.contents.profile = none) (hij : j ≠ i)
    (reference : Option Sweep) (o : Option Arrival) : (s.fire i reference o).2.watches[j] = s.watches[j] := by
  rw [fire_served hw hp, notifyFire_watches]
  exact getElem_setAt_ne _ (Ne.symm hij) _

theorem lastFireOf_eq_some {f : Sweep} :
    s.lastFireOf i = some f ↔ ∃ v, s.watches[i] = some v ∧ v.runtime.lastFire = some f := by
  rw [State.lastFireOf]
  cases s.watches[i] <;> simp

theorem preconditionHolds_iff {c : Contents} {reference : Option Sweep} : s.preconditionHolds c reference = true ↔
    ∀ p, c.precondition = some p → ∃ (v : Watch) (n f : Sweep), s.watches[p.watch] = some v ∧ reference = some n ∧
      v.runtime.lastFire = some f ∧ (n - f).toNat < p.window := by
  have hreads (p : Precondition) : (∃ (v : Watch) (n f : Sweep), s.watches[p.watch] = some v ∧ reference = some n ∧
      v.runtime.lastFire = some f ∧ (n - f).toNat < p.window) ↔
      ∃ n f, reference = some n ∧ s.lastFireOf p.watch = some f ∧ (n - f).toNat < p.window :=
    ⟨fun ⟨v, n, f, hv, hn, hf, hlt⟩ => ⟨n, f, hn, lastFireOf_eq_some.2 ⟨v, hv, hf⟩, hlt⟩, fun ⟨n, f, hn, hf, hlt⟩ =>
      let ⟨v, hv, hf⟩ := lastFireOf_eq_some.1 hf
      ⟨v, n, f, hv, hn, hf, hlt⟩⟩
  simp only [hreads]
  rw [State.preconditionHolds]
  cases hc : c.precondition with
  | none => exact iff_of_true rfl fun p hp => nomatch hp
  | some p =>
    simp only [Option.some.injEq, forall_eq']
    cases reference <;> cases s.lastFireOf p.watch <;> simp

/-! ### The watches on an occasion -/

/-- A fold over all indices that does something at one of them only. -/
theorem foldl_finRange_only {α : Type} {n : Nat} {f : α → Fin n → α} {a : α} (i : Fin n) (hbefore : ∀ j, j ≠ i → f a j = a)
    (hafter : ∀ j, j ≠ i → f (f a i) j = f a i) : (List.finRange n).foldl f a = f a i := by
  obtain ⟨l₁, l₂, hl, -⟩ := finRange_split i
  have hnodup := List.nodup_finRange n
  rw [hl, List.nodup_middle, List.nodup_cons, List.mem_append, not_or] at hnodup
  have hfix {b : α} {l : List (Fin n)} (hi : i ∉ l) (hb : ∀ j, j ≠ i → f b j = b) : l.foldl f b = b :=
    List.foldlRecOn l f (motive := fun c => c = b) rfl fun _ hc j hj => hc ▸ hc.symm ▸ hb j fun hji => hi (hji ▸ hj)
  rw [hl, List.foldl_append, List.foldl_cons, hfix hnodup.1.1 hbefore, hfix hnodup.1.2 hafter]

theorem foldl_finRange_none {α : Type} {n : Nat} {f : α → Fin n → α} {a : α} (h : ∀ j, f a j = a) :
    (List.finRange n).foldl f a = a :=
  List.foldlRecOn (List.finRange n) f (motive := fun c => c = a) rfl fun _ hc j _ => hc ▸ hc.symm ▸ h j

/-- An ARMED watch looks for the occasion (R62). -/
def State.looks (s : State) (meets : Condition → Bool) (i : Fin 32) (w : Watch) : Prop :=
  s.watches[i] = some w ∧ w.state = .armed ∧ meets w.contents.condition = true

theorem settleOccasion_of_not_looks (h : ∀ w, ¬s.looks meets i w) : s.settleOccasion meets i = s := by
  rw [State.settleOccasion]
  cases hw : s.watches[i] with
  | none => rfl
  | some w =>
    by_cases hs : w.state = .armed
    · have hmet : meets w.contents.condition = false := Bool.eq_false_iff.2 fun hmet => h w ⟨hw, hs, hmet⟩
      simp [hs, State.fireIf, hmet]
    · simp [hs]

theorem settleOccasion_of_looks (h : s.looks meets i w) : s.settleOccasion meets i =
    if s.preconditionHolds w.contents s.receiver.expected then (s.fire i s.receiver.expected none).2 else s := by
  obtain ⟨hw, hs, hmet⟩ := h
  simp [State.settleOccasion, hw, hs, State.fireIf, hmet]

theorem occasion_unheard (h : ∀ i w, ¬s.looks meets i w) : s.occasion meets = s :=
  foldl_finRange_none fun j => settleOccasion_of_not_looks (h j)

/-- One watch alone looks for the occasion: it fires where its precondition is satisfied (R64). -/
theorem occasion_heard (h : s.looks meets i w) (honly : ∀ j v, s.looks meets j v → j = i)
    (hp : w.contents.profile = none) : s.occasion meets =
      if s.preconditionHolds w.contents s.receiver.expected then
        (s.served i w s.receiver.expected).notifyFire i w.contents else s := by
  have hothers (t : State) (ht : ∀ j, j ≠ i → t.watches[j] = s.watches[j]) (j : Fin 32) (hj : j ≠ i) :
      t.settleOccasion meets j = t :=
    settleOccasion_of_not_looks fun v hv => hj (honly j v ⟨(ht j hj).symm.trans hv.1, hv.2⟩)
  have hsettled := settleOccasion_of_looks h
  rw [fire_served h.1 hp] at hsettled
  rw [State.occasion, ← hsettled]
  refine foldl_finRange_only i (hothers s fun _ _ => rfl) (hothers _ fun j hj => ?_)
  rw [hsettled]
  split
  · rw [← fire_served h.1 hp s.receiver.expected none, fire_served_watches h.1 hp hj]
  · rfl

/-! ### The expiry of a waiting event -/

theorem meetsEvent_iff {code : Fin 16} {c : Condition} : c.meetsEvent code = true ↔ c = .event code := by
  cases c <;> simp [Condition.meetsEvent]

/-- The group walks meet the watches and the contexts only (R47, R48). -/
theorem groupWalk_frame (s : State) (disarm arm : BitVec 4) : ∃ v c,
    (s.disarmGroup disarm).armGroup arm = { s with watches := v, contexts := c } := by
  have hwalks : (s.disarmGroup disarm).armGroup arm = (((s.disarmGroup disarm).watchesOf arm).foldl State.armWatch
      ((s.watchesOf disarm).foldl State.disarmWatch s)) := rfl
  rw [hwalks, foldl_armWatch _ (nodup_watchesOf ..), foldl_disarmWatch _ (nodup_watchesOf ..)]
  exact ⟨_, _, rfl⟩

/-- Settles O33: the application leaves port, counters and receiver alone, and the occasion finds at most one watch. -/
theorem eventExpiryApplies : Obligations.EventExpiryApplies := by
  unfold Obligations.EventExpiryApplies
  intro s before after x e hlow hwaiting hentry t walked applied hears
  obtain ⟨v, c, hwalked⟩ := groupWalk_frame t e.disarm e.arm
  have happlied : t.applyEntry s.events.table[x.code] = applied := by
    rw [hentry]
    change (if e.enable then (if e.zeroTime then walked.setTimeBase 0 else walked).requestPulse e.pulse else t) =
      if e.enable = true then _ else t
    refine if_congr Iff.rfl ?_ rfl
    rw [show walked = { t with watches := v, contexts := c } from hwalked]
    cases e.zeroTime <;> rfl
  have hframe : applied.port = s.port ∧ applied.counters = s.counters ∧ applied.receiver = s.receiver := by
    change State.port (if e.enable = true then _ else t) = _ ∧ State.counters (if e.enable = true then _ else t) = _ ∧
      State.receiver (if e.enable = true then _ else t) = _
    rw [show walked = { t with watches := v, contexts := c } from hwalked]
    cases e.enable <;> exact ⟨rfl, rfl, rfl⟩
  obtain ⟨hport, hcounters, hreceiver⟩ := hframe
  have hexec : exec (.eventExpiry before.length) s = .next (applied.occasion (Condition.meetsEvent x.code)) := by
    change Host.Outcome.next (if s.resetLow then s else s.eventExpires before.length) = _
    rw [hlow, State.eventExpires, hwaiting, getElem?_middle, eraseIdx_middle, ← happlied]
    rfl
  have hlooks (i : Fin 32) (w : Watch) : applied.looks (Condition.meetsEvent x.code) i w ↔ hears i w :=
    and_congr_right fun _ => and_congr_right fun _ => meetsEvent_iff
  rw [hexec]
  constructor
  · exact fun hnone => congrArg Host.Outcome.next (occasion_unheard fun i w => (hlooks i w).not.2 (hnone i w))
  intro i w hw honly hp satisfied served
  have hserved : applied.served i w s.receiver.expected = served := by
    rw [State.served, State.counter, hport, hcounters]
    rfl
  have hholds : applied.preconditionHolds w.contents s.receiver.expected = true ↔ satisfied := preconditionHolds_iff
  rw [occasion_heard ((hlooks i w).2 hw) (fun j u hu => honly j u ((hlooks j u).1 hu)) hp, hreceiver, hserved]
  exact ⟨fun h => by rw [if_pos (hholds.2 h)]; rfl, fun h => by rw [if_neg (hholds.not.2 h)]⟩

/-! ### The lines -/

theorem meetsEdge_iff {line : Line} {edge : Edge} {c : Condition} :
    c.meetsEdge line edge = true ↔ c = .line line edge := by
  cases c <;> simp [Condition.meetsEdge]

theorem Detector.edge_eq (d : Detector) : d.edge =
    if d.settled = (if d.level then .low else .high) then some (if d.level then .rising else .falling) else none := by
  cases hs : d.settled <;> cases hl : d.level <;> simp [Detector.edge, hs, hl]

/-- Settles O34: the detector by its levels, and an edge as an occasion that at most one watch looks for. -/
theorem triggerLinesWork : Obligations.TriggerLinesWork := by
  unfold Obligations.TriggerLinesWork
  intro s line high hlow d put
  have hd : s.lines.detector line = d := by cases line <;> rfl
  have hput (x : Detector) : s.lines.setDetector line x = put x := by cases line <;> rfl
  have hself : put d = s.lines := by cases line <;> rfl
  have hlevel : exec (.tinLevelChange line high) s = .next { s with lines := put (d.levelChange high) } := by
    change Host.Outcome.next (s.levelChanges line high) = _
    rw [State.levelChanges, hlow, hd, hput]
    rfl
  have hcandidate : exec (.candidateTimerRunOut line) s = .next (s.candidateRunsOut line) := by
    change Host.Outcome.next (if s.resetLow then s else s.candidateRunsOut line) = _
    rw [hlow]
    rfl
  refine ⟨⟨rfl, rfl, fun asked left => rfl⟩, ?pulse, fun h => ?same, fun h => ?changed, fun h => ?stopped,
    ?settles⟩
  case pulse =>
    change Host.Outcome.next (if s.resetLow then s else s.pulseRunsOut line) = _
    rw [if_neg (by simp [hlow])]
    cases line <;> rfl
  case same => rw [hlevel, Detector.levelChange, if_pos h, hself]
  case changed => rw [hlevel, Detector.levelChange, if_neg h]; rfl
  case stopped => rw [hcandidate, State.candidateRunsOut, hd, h]; rfl
  case settles =>
    intro hl ht settled edge reported
    have hsettle : put d.settle = settled := by rw [Detector.settle, hl]; rfl
    have hedge : d.edge = if reported then some edge else none := by rw [Detector.edge_eq, hl]
    have hruns : s.candidateRunsOut line = if reported then
        State.occasion { s with lines := settled } (Condition.meetsEdge line edge) else { s with lines := settled } := by
      rw [State.candidateRunsOut, hd, hput, hsettle, hedge]
      simp only [ht, if_true]
      split_ifs <;> rfl
    rw [hcandidate, hruns]
    refine ⟨fun h => ?_, fun i w hrep hw hs hc hpre hp hn honly => ?_⟩
    · by_cases hrep : reported
      · have hnone := h.resolve_left (not_not.2 hrep)
        rw [if_pos hrep, occasion_unheard]
        exact fun i w hlooks => hnone i w hlooks.1 hlooks.2.1 (meetsEdge_iff.1 hlooks.2.2)
      · rw [if_neg hrep]
    · rw [if_pos hrep, occasion_heard (s := { s with lines := settled }) ⟨hw, hs, meetsEdge_iff.2 hc⟩
        (fun j v hv => honly j v hv.1 hv.2.1 (meetsEdge_iff.1 hv.2.2)) hp,
        if_pos (preconditionHolds_iff.2 fun p h => nomatch hpre.symm.trans h), State.notifyFire, if_neg (by simp [hn])]
      cases line <;> rfl

end Sys2Proof.Machine
end

section
/-! A SWEEP while no capture is in flight: start, sequence and resync, and the fire of one watch (R20 to R28, R54 to R74). -/

namespace Sys2Proof.Machine

variable {s t : State} {i j : Fin 32} {w : Watch} {a : Arrival} {before : Vector (Option Watch) 32}

/-! ### The arrival of a SWEEP at the blocks -/

/-- The state after the port has taken a SWEEP and before the receiver accepts it (R4, R13). -/
def State.passed (s : State) (ws : List Word) : State :=
  { s with port := { (s.heard ws).port with markWord := 0 } }

theorem exec_sweepArrival (h : Header) (n m c : Word) (slots : List Word) (hh : s.hears) (h1 : 1 ≤ slots.length)
    (h2 : slots.length ≤ 256) (hc : c.toNat % 512 = slots.length) : exec (.sweepArrival h n m c slots) s =
      .next ((s.passed (withCrc (sweepWords h n (m ||| s.port.markWord) c slots))).acceptSweep n m slots) :=
  congrArg Host.Outcome.next (s.sweep_routed h n m c slots hh h1 h2 hc)

theorem bump_zero (s : State) (c : Counter) : s.bump c 0 = s := by
  have hsame : satAdd (s.counter c) 0 = s.counters[c.index] := by
    rw [satAdd, Nat.add_zero, Nat.min_eq_left (by omega), BitVec.ofNat_toNat, BitVec.setWidth_eq]
    rfl
  rw [State.bump, hsame, setAt_getElem_self]

/-- A start, or a sweep after `d` missing ones (R21, R23). -/
theorem acceptSweep_sequence {n : Sweep} {d : Nat} (m : Word) (slots : List Sample)
    (h : (s.receiver.expected = none ∧ d = 0) ∨ ∃ e, s.receiver.expected = some e ∧ (n - e).toNat = d ∧ d < 1024) :
    s.acceptSweep n m slots =
      (s.bump .missedSweeps d).takeSweep { number := n, gap := d, mark := m, slots := slots } := by
  rw [State.acceptSweep, Receiver.classify]
  obtain ⟨hnone, rfl⟩ | ⟨e, he, rfl, hd⟩ := h
  · rw [hnone, bump_zero]
  · rw [he]
    simp only [hd, if_true]

theorem acceptSweep_resync {n e : Sweep} (m : Word) (slots : List Sample) (he : s.receiver.expected = some e)
    (hjump : 1024 ≤ (n - e).toNat) : s.acceptSweep n m slots =
      s.resync.takeSweep { number := n, gap := 0, mark := m, slots := slots } := by
  rw [State.acceptSweep, Receiver.classify, he]
  simp only [Nat.not_lt.2 hjump, if_false]

/-- The state in which an arrival record in sequence is handed on (R4, R13, R23, R28). -/
def State.handing (s : State) (ws : List Word) (a : Arrival) : State :=
  { s with
    port := (s.passed ws).port
    counters := setAt s.counters Counter.missedSweeps.index (satAdd (s.counter .missedSweeps) a.gap)
    receiver := s.receiver.take a }

theorem exec_sweep_sequence (h : Header) (n m c : Word) (slots : List Word) (d : Nat) (hh : s.hears)
    (h1 : 1 ≤ slots.length) (h2 : slots.length ≤ 256) (hc : c.toNat % 512 = slots.length)
    (hseq : (s.receiver.expected = none ∧ d = 0) ∨ ∃ e, s.receiver.expected = some e ∧ (n - e).toNat = d ∧ d < 1024) :
    exec (.sweepArrival h n m c slots) s =
      .next ((s.handing (withCrc (sweepWords h n (m ||| s.port.markWord) c slots))
        { number := n, gap := d, mark := m, slots := slots }).handOn
          { number := n, gap := d, mark := m, slots := slots }) := by
  rw [exec_sweepArrival h n m c slots hh h1 h2 hc, acceptSweep_sequence (s := s.passed _) m slots hseq]
  rfl

/-! ### Watches settled on an arrival record -/

/-- A watch after an arrival record that does not meet its condition (R38, R55, R72). -/
def Watch.settled (a : Arrival) (w : Watch) : Watch :=
  if w.state = .armed then { w with runtime := (w.contents.onArrival w.runtime a).2 }
  else if w.state = .holdoff then w.countHoldoff a.gap
  else w

theorem settle_unmet (hsame : s.watches[i] = before[i])
    (hunmet : ∀ w, before[i] = some w → w.state = .armed → (w.contents.onArrival w.runtime a).1 = false) :
    s.settle before a i = { s with watches := setAt s.watches i ((s.watches[i]).map (Watch.settled a)) } := by
  rw [State.settle]
  cases hw : before[i] with
  | none =>
    have hkept : setAt s.watches i none = s.watches := by rw [← hw, ← hsame, setAt_getElem_self]
    rw [hsame, hw, Option.map_none, hkept]
  | some w =>
    have hkept : { s with watches := setAt s.watches i (some w) } = s := by rw [← hw, ← hsame, setAt_getElem_self]
    cases hs : w.state with
    | armed =>
      simp [hs, State.fireIf, hunmet w hw hs, State.modifyWatch, hsame, hw, Watch.settled]
    | holdoff => simp [hs, State.modifyWatch, hsame, hw, Watch.settled]
    | idle => simp [hs, hsame, hw, Watch.settled, hkept]
    | fired => simp [hs, hsame, hw, Watch.settled, hkept]
    | spent => simp [hs, hsame, hw, Watch.settled, hkept]

/-- A watch that is neither ARMED nor in HOLDOFF does not take the record (R38). -/
theorem settle_resting (h : ∀ w, before[i] = some w → w.state ≠ .armed ∧ w.state ≠ .holdoff) :
    s.settle before a i = s := by
  rw [State.settle]
  cases hw : before[i] with
  | none => rfl
  | some w =>
    obtain ⟨harmed, hholdoff⟩ := h w hw
    cases hs : w.state with
    | armed => exact absurd hs harmed
    | holdoff => exact absurd hs hholdoff
    | idle | fired | spent => simp [hs]

theorem settle_met (hw : before[i] = some w) (hs : w.state = .armed)
    (hmet : (w.contents.onArrival w.runtime a).1 = true) : s.settle before a i =
      (s.modifyWatch i fun x => { x with runtime := (w.contents.onArrival w.runtime a).2 }).fireIf i w.contents true
        (some a.number) (some a) := by
  rw [State.settle, hw]
  simp only [hs, hmet]

theorem foldl_settle_unmet (l : List (Fin 32)) (hl : l.Nodup) (hsame : ∀ i ∈ l, s.watches[i] = before[i])
    (hunmet : ∀ (i : Fin 32) w, before[i] = some w → w.state = .armed → (w.contents.onArrival w.runtime a).1 = false) :
    l.foldl (fun t i => t.settle before a i) s =
      { s with watches := watchesWhere (fun i => decide (i ∈ l)) (Watch.settled a) s.watches } := by
  induction l generalizing s with
  | nil =>
    rw [watchesWhere_none (by simp)]
    rfl
  | cons k l ih =>
    obtain ⟨hk, hl⟩ := List.nodup_cons.1 hl
    have hhead := settle_unmet (hsame k List.mem_cons_self) (hunmet k)
    have htable : watchesWhere (fun i => decide (i ∈ l)) (Watch.settled a)
        (setAt s.watches k ((s.watches[k]).map (Watch.settled a))) =
          watchesWhere (fun i => decide (i ∈ k :: l)) (Watch.settled a) s.watches := by
      have hfirst : (s.watches[k]).map (Watch.settled a) =
          if decide (k ∈ k :: l) then (s.watches[k]).map (Watch.settled a) else s.watches[k] := by simp
      rw [hfirst]
      exact watchesWhere_setAt (p := fun i => decide (i ∈ k :: l)) (by simp [hk]) fun i hi => by simp [hi]
    rw [List.foldl_cons, hhead, ih hl, htable]
    exact fun i hi => (getElem_setAt_ne _ (by rintro rfl; exact hk hi) _).trans (hsame i (List.mem_cons_of_mem _ hi))

theorem handOn_idle (hidle : ∀ k : Fin 4, s.contexts[k] = none) (a : Arrival) :
    s.handOn a = (List.finRange 32).foldl (fun t i => t.settle s.watches a i) s := by
  rw [State.handOn, s.activeContexts_none hidle]

theorem handOn_unmet (hidle : ∀ k : Fin 4, s.contexts[k] = none)
    (hunmet : ∀ (i : Fin 32) w, s.watches[i] = some w → w.state = .armed → (w.contents.onArrival w.runtime a).1 = false) :
    s.handOn a = { s with watches := mapTable (fun _ o => o.map (Watch.settled a)) s.watches } := by
  rw [handOn_idle hidle, foldl_settle_unmet _ (List.nodup_finRange 32) (fun _ _ => rfl) hunmet]
  have hall : watchesWhere (fun i => decide (i ∈ List.finRange 32)) (Watch.settled a) s.watches =
      mapTable (fun _ o => o.map (Watch.settled a)) s.watches :=
    table_ext fun i => by rw [getElem_watchesWhere, getElem_mapTable]; simp
  rw [hall]

/-- Settles O20. -/
theorem sweepWithoutFire : Obligations.SweepWithoutFire := by
  unfold Obligations.SweepWithoutFire
  intro s h n m c slots d hh h1 h2 hc hidle hseq a rows hunmet
  rw [exec_sweep_sequence h n m c slots d hh h1 h2 hc hseq, handOn_unmet (s := s.handing _ a) hidle hunmet]
  simp only [State.handing, Receiver.take, appendRows, ← List.append_assoc]
  rfl

/-! ### The resync -/

/-- The end of a capture does not meet the port (R93). -/
theorem endCapture_withPort (s : State) (p : Port) (k : Fin 4) (reason : EndReason) :
    { s with port := p }.endCapture k reason = { s.endCapture k reason with port := p } := by
  cases h : s.contexts[k] with
  | none => rw [State.endCapture_idle h, State.endCapture_idle (s := { s with port := p }) h]
  | some c =>
    have hnotified : { s with port := p }.endNotified c reason = { s.endNotified c reason with port := p } := by
      rw [State.endNotified, State.endNotified]
      split
      · refine (State.post_congr (s.recordEnded c reason) (State.recordEnded { s with port := p } c reason) _ _ _ rfl
          rfl).trans ?_
        rw [State.post_frame (s.recordEnded c reason)]
        rfl
      · rfl
    rw [State.endCapture_active h, State.endCapture_active (s := { s with port := p }) h, hnotified]

theorem appendRows_single (row : Row) : appendRows [] [row] = [row] := by
  rw [appendRows, List.nil_append, List.length_singleton, Nat.sub_eq_zero_of_le (by decide), List.drop_zero]

/-- Settles O21: the three steps of the resync, then the sweep without a gap. -/
theorem resyncStartsAnew : Obligations.ResyncStartsAnew := by
  unfold Obligations.ResyncStartsAnew
  intro s u h n m c slots e hh h1 h2 hc he hjump a broken hu hunmet
  obtain ⟨p, hp⟩ : ∃ p, p = (s.passed (withCrc (sweepWords h n (m ||| s.port.markWord) c slots))).port := ⟨_, rfl⟩
  have hpassed : s.passed (withCrc (sweepWords h n (m ||| s.port.markWord) c slots)) = { s with port := p } := by
    rw [hp]
    rfl
  have hresync : { s with port := p }.resync = { u with port := p } ∧ (∀ k : Fin 4, u.contexts[k] = none) ∧
      u.receiver = { s.receiver with history := [] } := by
    have hend : { s with port := p }.resync = { broken with port := p }.endAll .sequence := rfl
    rw [hend]
    obtain ⟨hidle, rfl⟩ | ⟨k, x, hk, hothers, rfl⟩ := hu
    · exact ⟨State.endAll_none { broken with port := p } .sequence hidle, hidle, rfl⟩
    · refine ⟨?_, fun l => ?_, ?_⟩
      · rw [State.endAll_one { broken with port := p } .sequence k x hk hothers, endCapture_withPort]
      · rw [State.endCapture_active (s := broken) hk]
        by_cases hl : l = k
        · rw [hl]
          exact getElem_setAt_self ..
        · exact (getElem_setAt_ne _ (Ne.symm hl) _).trans (hothers l hl)
      · rw [State.endCapture_frame]
  obtain ⟨hresync, hidle, hreceiver⟩ := hresync
  rw [exec_sweepArrival h n m c slots hh h1 h2 hc, hpassed,
    acceptSweep_resync (s := { s with port := p }) m slots he hjump, hresync, State.takeSweep,
    handOn_unmet (s := { u with port := p, receiver := ({ u with port := p } : State).receiver.take a }) hidle hunmet]
  have htake : ({ u with port := p } : State).receiver.take a = { s.receiver with
      expected := some (n + 1)
      history := [{ kind := .received, values := s.receiver.historySet.map fun x => slots.getD x.toNat 0x8000 }] } := by
    rw [Receiver.take, show ({ u with port := p } : State).receiver = { s.receiver with history := [] } from hreceiver]
    simp only [a, List.replicate_zero, List.nil_append, appendRows_single]
    rfl
  rw [htake, hp]
  rfl

end Sys2Proof.Machine
end

section
/-! A SWEEP that one watch is met by, with or without an action profile (R64 to R71, R89). -/

namespace Sys2Proof.Machine

variable {s t : State} {i j : Fin 32} {w : Watch} {a : Arrival} {p : Fin 8} {k : Fin 4}

/-! ### The notice of a fire and the opening of its capture, in either order -/

/-- The state after a draw (log 6). -/
theorem draw_eq (s : State) : s.draw.2 = { s with script := s.draw.2.script, draws := s.draw.2.draws } := by
  rw [State.draw]
  cases s.script <;> rfl

theorem draw_congr (hscript : t.script = s.script) (hdraws : t.draws = s.draws) :
    t.draw = (s.draw.1, { t with script := s.draw.2.script, draws := s.draw.2.draws }) := by
  rw [State.draw, State.draw, hscript, hdraws]
  cases h : s.script with
  | nil => simp
  | cons x rest => simp

theorem fireCapture_notice_first {c : Contents} (hn : c.notify = true) (hdraw : s.draw.1 % 2 = 0) (i : Fin 32)
    (p : Fin 8) (k : Fin 4) (reference : Option Sweep) (o : Option Arrival) :
    s.fireCapture i c p k reference o = (s.draw.2.post .watchFired i.val .watch).openCapture k i p reference o := by
  simp [State.fireCapture, State.notifyFirst, State.notifyFire, hn, hdraw]

theorem fireCapture_notice_last {c : Contents} (hn : c.notify = true) (hdraw : s.draw.1 % 2 = 1) (i : Fin 32)
    (p : Fin 8) (k : Fin 4) (reference : Option Sweep) (o : Option Arrival) :
    s.fireCapture i c p k reference o = ((s.draw.2.openCapture k i p reference o).1,
      (s.draw.2.openCapture k i p reference o).2.post .watchFired i.val .watch) := by
  simp [State.fireCapture, State.notifyFirst, State.notifyFire, hn, hdraw]

theorem fire_capture (hw : s.watches[i] = some w) (hup : s.port.link = .up) (hp : w.contents.profile = some p)
    (hk : s.idleContext = some k) (reference : Option Sweep) (o : Option Arrival) : (s.fire i reference o).2 =
      ((s.fired i w reference).fireCapture i w.contents p k reference o).2 := by
  rw [State.fire, hw]
  simp only [hp, hk]
  rw [takeFire_eq hup hw]

/-! ### One watch takes the record -/

/-- The watch's runtime after the evaluation of an arrival record. -/
def Watch.evaluated (w : Watch) (a : Arrival) : Watch :=
  { w with runtime := (w.contents.onArrival w.runtime a).2 }

theorem handOn_met (hidle : ∀ k : Fin 4, s.contexts[k] = none) (hw : s.watches[i] = some w) (hs : w.state = .armed)
    (hmet : (w.contents.onArrival w.runtime a).1 = true)
    (hothers : ∀ (j : Fin 32) (v : Watch), s.watches[j] = some v → j ≠ i → v.state ≠ .armed ∧ v.state ≠ .holdoff) :
    s.handOn a = { s with watches := setAt s.watches i (some (w.evaluated a)) }.fireIf i w.contents true
      (some a.number) (some a) := by
  have hrest (t : State) (j : Fin 32) (hj : j ≠ i) : t.settle s.watches a j = t :=
    settle_resting fun v hv => hothers j v hv hj
  rw [handOn_idle hidle, foldl_finRange_only i (hrest s) (hrest _), settle_met hw hs hmet, State.modifyWatch, hw]
  rfl

/-- A precondition on an earlier watch is read in the table as it was before the record (R64). -/
theorem preconditionHolds_earlier {c : Contents} {n : Sweep} {o : Option Watch}
    (hlow : ∀ p, c.precondition = some p → p.watch < i) :
    State.preconditionHolds { s with watches := setAt s.watches i o } c (some n) = true ↔
      ∀ p, c.precondition = some p → ∃ (v : Watch) (f : Sweep), s.watches[p.watch] = some v ∧
        v.runtime.lastFire = some f ∧ (n - f).toNat < p.window := by
  rw [preconditionHolds_iff]
  refine forall_congr' fun p => forall_congr' fun hp => exists_congr fun v => ?_
  rw [getElem_setAt_ne _ (hlow p hp).ne']
  simp

/-- Settles O25: the met watch is the only one that takes the record, and its fire is taken in UP. -/
theorem sweepFires : Obligations.SweepFires := by
  unfold Obligations.SweepFires
  intro s h n m c slots i w hh h1 h2 hc hidle hn hw hs hothers a hmet runtime rows t satisfied fired served drawn
  have hseq : (s.receiver.expected = none ∧ 0 = 0) ∨ ∃ e, s.receiver.expected = some e ∧ (n - e).toNat = 0 ∧ 0 < 1024 :=
    .inr ⟨n, hn, by simp, by decide⟩
  have hhanding : s.handing (withCrc (sweepWords h n (m ||| s.port.markWord) c slots)) a = t := by
    have hcounters : setAt s.counters Counter.missedSweeps.index (satAdd (s.counter .missedSweeps) 0) = s.counters :=
      congrArg State.counters (bump_zero s .missedSweeps)
    rw [State.handing, show a.gap = 0 from rfl, hcounters]
    rfl
  obtain ⟨u, hu⟩ : ∃ u, u = ({ t with watches := setAt s.watches i (some (w.evaluated a)) } : State) := ⟨_, rfl⟩
  have huw : u.watches[i] = some (w.evaluated a) := by rw [hu]; exact getElem_setAt_self ..
  have hexec : exec (.sweepArrival h n m c slots) s = .next (u.fireIf i w.contents true (some n) (some a)) := by
    rw [exec_sweep_sequence h n m c slots 0 hh h1 h2 hc hseq, hhanding, hu]
    exact congrArg Host.Outcome.next (handOn_met (s := t) hidle hw hs hmet hothers)
  have hholds (hlow : ∀ p, w.contents.precondition = some p → p.watch < i) :
      u.preconditionHolds w.contents (some n) = true ↔ satisfied := by
    rw [hu]
    exact preconditionHolds_earlier (s := t) hlow
  have hup : u.port.link = .up := by rw [hu]; exact hh.2.1
  have hmark : (0 : Word) ||| askedMark (w.evaluated a).contents.markCode = askedMark w.contents.markCode := BitVec.zero_or
  have hfired : u.fired i (w.evaluated a) (some n) = served fired := by
    rw [hu, State.fired]
    simp only [setAt_setAt, t, hmark]
    rfl
  have hserved : u.served i (w.evaluated a) (some n) = served fired.endStep := by
    rw [hu, State.served]
    simp only [setAt_setAt, t, hmark]
    rw [if_pos (show ((s.heard _).port).link = .up from hh.2.1)]
    rfl
  rw [hexec, State.fireIf, Bool.true_and]
  refine ⟨fun hlow hsat => ?_, fun hlow hsat => ?_⟩
  · rw [if_pos ((hholds hlow).2 hsat)]
    refine ⟨fun hp => ?_, fun p hp => ?_⟩
    · rw [fire_served huw hp, hserved]
      rfl
    · have hfirst : u.idleContext = some 0 := idleContext_first (by rw [hu]; exact hidle 0) fun l hl => absurd hl (by omega)
      rw [fire_capture huw hup hp hfirst, hfired, show (w.evaluated a).contents = w.contents from rfl]
      have hdraw : (served fired).draw = (s.draw.1, drawn) := draw_congr rfl rfl
      refine ⟨fun hn => ?_, fun hn h0 => ?_, fun hn h1 => ?_⟩
      · rw [fireCapture_unnotified hn]
      · rw [fireCapture_notice_first hn (by rw [hdraw]; exact h0), hdraw]
      · rw [fireCapture_notice_last hn (by rw [hdraw]; exact h1), hdraw]
  · rw [if_neg ((hholds hlow).not.2 hsat), hu]
    rfl

end Sys2Proof.Machine
end

section
/-! A SWEEP and the capture in flight (R66, R89 to R92). -/

namespace Sys2Proof.Machine

variable {s t : State} {k : Fin 4} {c : Context} {a : Arrival} {number : Sweep}

/-! ### A covered sweep -/

/-- A capture's context after a post row at a sweep (R89 to R91). -/
def Context.afterPost (c : Context) (number : Sweep) (missing : Bool) : Context :=
  { c with
    post := c.post + 1
    gap := if missing then c.gap + 1 else c.gap
    used := c.used + c.snapshot.rowSize
    nextDue := some (number + BitVec.ofNat 16 c.snapshot.decimation) }

/-- A row written after the words used, with the counts of the context `d` in the header and its words as the segment's
fill (R91). -/
def State.rowPut (s : State) (k : Fin 4) (used : Nat) (d : Context) (values : List Sample) : State :=
  let base := d.segment.val * s.ring.segSize
  { s with
    contexts := setAt s.contexts k (some d)
    ring := { s.ring with
      mem := (((s.ring.mem.writeAll (base + used) (packRow values)).write (base + 3) d.word3).write (base + 4)
        (BitVec.ofNat 32 d.gap)).write (base + 7) (BitVec.ofNat 32 d.used)
      segs := setAt s.ring.segs d.segment ((s.ring.segs[d.segment]).map fun x => { x with fill := d.used }) } }

theorem writeRow_eq_rowPut (s : State) (k : Fin 4) (c : Context) (values : List Sample) (pre gap : Bool) :
    s.writeRow k c values pre gap = s.rowPut k c.used (c.withRow pre gap) values := by
  simp only [State.writeRow, State.rowPut, State.setContext, State.modifySegment, State.writeSegment, Memory.writeAll,
    Ring.base]
  rfl

theorem rowPut_contexts (s : State) (k : Fin 4) (used : Nat) (d : Context) (values : List Sample) :
    (s.rowPut k used d values).contexts = setAt s.contexts k (some d) := rfl

/-- The next due sweep is no part of the record. -/
theorem rowPut_setContext (s : State) (k : Fin 4) (used : Nat) (d : Context) (values : List Sample) (o : Option Sweep) :
    (s.rowPut k used d values).setContext k (some { d with nextDue := o }) =
      s.rowPut k used { d with nextDue := o } values := by
  rw [State.setContext, rowPut_contexts, setAt_setAt]
  rfl

theorem writeRow_afterPostRow (s : State) (k : Fin 4) (c : Context) (values : List Sample) (missing : Bool)
    (number : Sweep) : (s.writeRow k c values false missing).afterPostRow k number =
      if c.post + 1 = c.snapshot.post then
        (s.rowPut k c.used (c.afterPost number missing) values).endCapture k .complete
      else s.rowPut k c.used (c.afterPost number missing) values := by
  have hset := rowPut_setContext s k c.used (c.withRow false missing) values
    (some (number + BitVec.ofNat 16 c.snapshot.decimation))
  have hcontext := rowPut_contexts s k c.used (c.withRow false missing) values
  rw [writeRow_eq_rowPut]
  generalize s.rowPut k c.used (c.withRow false missing) values = t at hset hcontext ⊢
  rw [State.afterPostRow, hcontext, getElem_setAt_self]
  exact if_congr Iff.rfl (congrArg (State.endCapture · k .complete) hset) hset

theorem coverSweep_idle (h : s.contexts[k] = none) (a : Arrival) (x : Sweep × Bool) : s.coverSweep k a x = s := by
  rw [State.coverSweep, h]

theorem coverSweep_undue (h : s.contexts[k] = some c) (hdue : c.nextDue ≠ some number) (a : Arrival) (missing : Bool) :
    s.coverSweep k a (number, missing) = s := by
  rw [State.coverSweep, h]
  exact if_neg hdue

theorem coverSweep_full (h : s.contexts[k] = some c) (hdue : c.nextDue = some number)
    (hfull : s.ring.segSize < c.used + c.snapshot.rowSize) (a : Arrival) (missing : Bool) :
    s.coverSweep k a (number, missing) = s.endCapture k .truncated := by
  rw [State.coverSweep, h]
  exact (if_pos hdue).trans (if_pos hfull)

theorem coverSweep_fits (h : s.contexts[k] = some c) (hdue : c.nextDue = some number)
    (hfits : c.used + c.snapshot.rowSize ≤ s.ring.segSize) (a : Arrival) (missing : Bool) :
    s.coverSweep k a (number, missing) =
      let written := s.rowPut k c.used (c.afterPost number missing)
        (c.snapshot.slots.map fun x => if missing then absentCode else a.sample x)
      if c.post + 1 = c.snapshot.post then written.endCapture k .complete else written := by
  have hvalues : (if missing = true then c.snapshot.absentRow else a.rowOf c.snapshot) =
      c.snapshot.slots.map fun x => if missing then absentCode else a.sample x := by
    cases missing <;> rfl
  rw [State.coverSweep, h]
  refine (if_pos hdue).trans ((if_neg (Nat.not_lt.2 hfits)).trans ?_)
  rw [← hvalues]
  exact writeRow_afterPostRow ..

/-! ### The hand-on while one capture is in flight -/

theorem contextsAt_one (x : Nat) (k : Fin 4) (place : Nat) :
    contextsAt x [k] place = if x / 24 / 33 ^ k.val % 33 = place then [k] else [] := by
  have horder : arrange 4 [k] x = [k] := by simp [arrange, Nat.mod_one]
  rw [contextsAt, horder, List.filter_singleton]
  simp

/-- Whatever the draw, the one capture takes the record once, and no watch does (R25). -/
theorem handOn_one (hk : s.contexts[k] = some c) (hothers : ∀ l : Fin 4, l ≠ k → s.contexts[l] = none)
    (hrest : ∀ (j : Fin 32) w, s.watches[j] = some w → w.state ≠ .armed ∧ w.state ≠ .holdoff) (a : Arrival) :
    s.handOn a = s.draw.2.takeArrival k a := by
  have hsettle (t : State) (j : Fin 32) : t.settle s.watches a j = t := settle_resting (hrest j)
  have htaken (t : State) (place : Nat) (h : s.draw.1 / 24 / 33 ^ k.val % 33 = place) :
      t.takeAll a (contextsAt s.draw.1 [k] place) = t.takeArrival k a := by rw [contextsAt_one, if_pos h]; rfl
  have hpassed (t : State) (place : Nat) (h : s.draw.1 / 24 / 33 ^ k.val % 33 ≠ place) :
      t.takeAll a (contextsAt s.draw.1 [k] place) = t := by rw [contextsAt_one, if_neg h]; rfl
  rw [State.handOn, s.activeContexts_one k c hk hothers]
  simp only [hsettle]
  by_cases hlast : s.draw.1 / 24 / 33 ^ k.val % 33 = 32
  · rw [foldl_finRange_none fun j => hpassed _ _ (by omega), htaken _ _ hlast]
  · have hlt : s.draw.1 / 24 / 33 ^ k.val % 33 < 32 := by omega
    have hne (j : Fin 32) (hj : j ≠ ⟨_, hlt⟩) : s.draw.1 / 24 / 33 ^ k.val % 33 ≠ j.val := fun h => hj (Fin.ext h.symm)
    rw [foldl_finRange_only ⟨_, hlt⟩ (fun j hj => hpassed _ _ (hne j hj)) (fun j hj => hpassed _ _ (hne j hj)),
      htaken _ _ rfl, hpassed _ _ hlast]

theorem draw_contexts (s : State) : s.draw.2.contexts = s.contexts := by rw [draw_eq]

theorem draw_ring (s : State) : s.draw.2.ring = s.ring := by rw [draw_eq]

theorem draw_counters (s : State) : s.draw.2.counters = s.counters := by rw [draw_eq]

theorem draw_handing (s : State) (ws : List Word) (a : Arrival) : (s.handing ws a).draw.2 = { s.draw.2 with
    port := (s.passed ws).port
    counters := setAt s.counters Counter.missedSweeps.index (satAdd (s.counter .missedSweeps) a.gap)
    receiver := s.receiver.take a } := by
  rw [draw_congr (s := s) (t := s.handing ws a) rfl rfl, draw_eq s]
  rfl

/-- The history's rows after an arrival record (R28). -/
theorem receiver_take (rx : Receiver) (n : Sweep) (d : Nat) (m : Word) (slots : List Sample) :
    rx.take { number := n, gap := d, mark := m, slots := slots } =
      let rows := rx.history ++ List.replicate d rx.missingRow ++
        [{ kind := .received, values := rx.historySet.map fun x => slots.getD x.toNat 0x8000 }]
      { rx with expected := some (n + 1), history := rows.drop (rows.length - 1024) } := by
  rw [Receiver.take, appendRows, ← List.append_assoc]
  rfl

/-- A context that has learned its trigger sweep (R89). -/
def Context.learned (c : Context) (number : Sweep) : Context := { c with trigger := some number, nextDue := some number }

theorem learnTrigger_eq (hk : s.contexts[k] = some c) (a : Arrival) : s.learnTrigger k a =
    if c.trigger = none then { s with
      contexts := setAt s.contexts k (some (c.learned a.number))
      ring := { s.ring with
        mem := s.ring.mem.write (c.segment.val * s.ring.segSize + 1) (c.learned a.number).word1 } }
    else s := by
  rw [State.learnTrigger, hk]
  cases h : c.trigger with
  | none => simp only [h, if_true]; rfl
  | some x => simp [h]

/-- Settles O27: the hand-on is the one capture's, and that takes the covered sweeps in turn. -/
theorem sweepRecordsRow : Obligations.SweepRecordsRow := by
  unfold Obligations.SweepRecordsRow
  refine ⟨?known, ?covered, ?sweep⟩
  case sweep =>
    intro s k a number missing
    refine ⟨fun h => coverSweep_idle h a _, ?_⟩
    intro c h size values d base written
    exact ⟨fun hdue => coverSweep_undue h hdue a missing, fun hdue =>
      ⟨fun hfull => coverSweep_full h hdue hfull a missing, fun hfits => coverSweep_fits h hdue hfits a missing⟩⟩
  case covered =>
    intro s h n m w slots d k c hh h1 h2 hw hseq hk hothers hrest a rows t learned word1 ready
    have hready : (s.handing (withCrc (sweepWords h n (m ||| s.port.markWord) w slots)) a).draw.2 = t := by
      rw [draw_handing, receiver_take]
      rfl
    have hcontexts : State.contexts t = s.contexts := draw_contexts s
    have hring : State.ring t = s.ring := draw_ring s
    have hlearned : t.learnTrigger k a = ready := by
      rw [learnTrigger_eq (s := t) (c := c) (by rw [hcontexts]; exact hk), hcontexts, hring]
      rfl
    rw [exec_sweep_sequence h n m w slots d hh h1 h2 hw hseq, handOn_one (s := s.handing _ a) hk hothers hrest, hready,
      State.takeArrival, hlearned]
    rfl
  case known =>
    intro s h n m w slots k c t0 hh h1 h2 hw hn hk hothers htrigger hrest rows t size d base written
    obtain ⟨a, ha⟩ : ∃ a : Arrival, a = { number := n, gap := 0, mark := m, slots := slots } := ⟨_, rfl⟩
    have hseq : (s.receiver.expected = none ∧ 0 = 0) ∨ ∃ e, s.receiver.expected = some e ∧ (n - e).toNat = 0 ∧ 0 < 1024 :=
      .inr ⟨n, hn, by simp, by decide⟩
    have hready : (s.handing (withCrc (sweepWords h n (m ||| s.port.markWord) w slots)) a).draw.2 = t := by
      have hcounters : setAt s.counters Counter.missedSweeps.index (satAdd (s.counter .missedSweeps) 0) = s.draw.2.counters :=
        (congrArg State.counters (bump_zero s .missedSweeps)).trans (draw_counters s).symm
      rw [draw_handing, ha, hcounters, receiver_take]
      simp only [List.replicate_zero, List.append_nil]
      rfl
    have hcontexts : State.contexts t = s.contexts := draw_contexts s
    have hring : State.ring t = s.ring := draw_ring s
    have hcontext : (State.contexts t)[k] = some c := by rw [hcontexts]; exact hk
    have hexec : exec (.sweepArrival h n m w slots) s = .next (t.coverSweep k a (n, false)) := by
      rw [exec_sweep_sequence h n m w slots 0 hh h1 h2 hw hseq, ← ha, handOn_one (s := s.handing _ a) hk hothers hrest,
        hready, State.takeArrival, learnTrigger_eq (s := t) hcontext, htrigger, ha]
      rfl
    rw [hexec]
    refine ⟨fun hdue => ?_, fun hdue hfull => ?_, fun hdue hfits hpost => ?_, fun hdue hfits hpost => ?_⟩
    · rw [coverSweep_undue (s := t) hcontext hdue]
    · rw [coverSweep_full (s := t) hcontext hdue (by rw [hring]; exact hfull)]
    all_goals
      have hwritten : t.rowPut k c.used (c.afterPost n false)
          (c.snapshot.slots.map fun x => if false = true then absentCode else a.sample x) = written := by
        rw [State.rowPut, hcontexts, hring, ha]
        rfl
      rw [coverSweep_fits (s := t) hcontext hdue (by rw [hring]; exact hfits)]
    · exact congrArg Host.Outcome.next ((if_neg hpost).trans hwritten)
    · exact congrArg Host.Outcome.next ((if_pos hpost).trans (congrArg (State.endCapture · k .complete) hwritten))

end Sys2Proof.Machine
end

section
/-! The record that an opening writes, word by word: the header, the pre rows, the trigger row (R84 to R91). -/

namespace Sys2Proof.Machine

variable {old mem : Memory} {base : Nat} {record : List CapWord} {k : Fin 4} {c d : Context} {time : BitVec 48}

/-! ### A record in capture memory -/

/-- Memory that holds the words of a record from an address on, and elsewhere what it held before. -/
structure HoldsRecord (old : Memory) (base : Nat) (record : List CapWord) (mem : Memory) : Prop where
  wf : mem.wf
  read : ∀ a, mem.read a =
    if base ≤ a ∧ a < base + record.length then record.getD (a - base) 0 else old.read a

theorem HoldsRecord.nil (h : old.wf) (base : Nat) : HoldsRecord old base [] old :=
  ⟨h, fun a => (if_neg (by simp)).symm⟩

theorem HoldsRecord.append (h : HoldsRecord old base record mem) (ws : List CapWord) :
    HoldsRecord old base (record ++ ws) (mem.writeAll (base + record.length) ws) where
  wf := Memory.writeAll_wf _ _ _ h.wf
  read a := by
    rw [List.length_append]
    by_cases hlow : a < base + record.length
    · rw [Memory.read_writeAll_other _ _ _ _ (.inl hlow), h.read]
      by_cases hbase : base ≤ a
      · rw [if_pos ⟨hbase, hlow⟩, if_pos ⟨hbase, by omega⟩, List.getD_append _ _ _ _ (by omega)]
      · rw [if_neg (by omega), if_neg (by omega)]
    · by_cases hhigh : a < base + record.length + ws.length
      · obtain ⟨j, rfl⟩ : ∃ j, a = base + record.length + j := ⟨a - (base + record.length), by omega⟩
        have hj : j < ws.length := by omega
        rw [Memory.read_writeAll_same ws mem _ j h.wf hj, if_pos (by omega), List.getD_append_right _ _ _ _ (by omega),
          show base + record.length + j - base - record.length = j by omega, List.getD_eq_getElem _ _ hj]
      · rw [Memory.read_writeAll_other _ _ _ _ (.inr (by omega)), h.read, if_neg (by omega), if_neg (by omega)]

theorem HoldsRecord.set (h : HoldsRecord old base record mem) {j : Nat} (hj : j < record.length) (v : CapWord) :
    HoldsRecord old base (record.set j v) (mem.write (base + j) v) where
  wf := Memory.write_wf _ _ _ h.wf
  read a := by
    rw [List.length_set]
    by_cases ha : a = base + j
    · subst ha
      rw [Memory.read_write_same _ _ _ h.wf, if_pos (by omega), Nat.add_sub_cancel_left,
        List.getD_eq_getElem _ _ (by rw [List.length_set]; exact hj), List.getElem_set_self]
    · rw [Memory.read_write_other _ _ _ _ ha, h.read]
      by_cases hin : base ≤ a ∧ a < base + record.length
      · rw [if_pos hin, if_pos hin, List.getD_eq_getElem?_getD, List.getD_eq_getElem?_getD,
          List.getElem?_set_ne (by omega)]
      · rw [if_neg hin, if_neg hin]

/-! ### The record under way -/

theorem length_header (c : Context) (reason : EndReason) (time : BitVec 48) : (c.header reason time).length = 12 := rfl

theorem length_packRow : ∀ values : List Sample, (packRow values).length = (values.length + 1) / 2
  | [] => rfl
  | [_] => by simp [packRow]
  | _ :: _ :: rest => by
    rw [packRow, List.length_cons, length_packRow rest, List.length_cons, List.length_cons]
    omega

/-- The counts of rows and words stand in three words of the header (R91). -/
theorem header_counts (hd : d = { c with pre := d.pre, post := d.post, gap := d.gap, used := d.used, nextDue := d.nextDue })
    (reason : EndReason) (time : BitVec 48) (body : List CapWord) :
    (((c.header reason time ++ body).set 3 d.word3).set 4 (BitVec.ofNat 32 d.gap)).set 7 (BitVec.ofNat 32 d.used) =
      d.header reason time ++ body := by
  rw [hd]
  rfl

/-- The state while a capture's context is `c` and its words stand in memory `mem`. -/
def State.recorded (b : State) (k : Fin 4) (c : Context) (mem : Memory) : State :=
  { b with
    contexts := setAt b.contexts k (some c)
    ring := { b.ring with
      mem := mem
      segs := setAt b.ring.segs c.segment ((b.ring.segs[c.segment]).map fun x => { x with fill := c.used }) } }

theorem recorded_contexts (b : State) (k : Fin 4) (c : Context) (mem : Memory) :
    (b.recorded k c mem).contexts[k] = some c := getElem_setAt_self ..

theorem recorded_rowPut (b : State) (hsegment : d.segment = c.segment) (used : Nat) (values : List Sample) :
    let base := c.segment.val * b.ring.segSize
    (b.recorded k c mem).rowPut k used d values = b.recorded k d ((((mem.writeAll (base + used) (packRow values)).write
      (base + 3) d.word3).write (base + 4) (BitVec.ofNat 32 d.gap)).write (base + 7) (BitVec.ofNat 32 d.used)) := by
  intro base
  simp only [State.rowPut, State.recorded, hsegment, setAt_setAt, getElem_setAt_self, Option.map_map]
  rfl

/-- A capture of context `k` under way in state `u`: header and rows of its record stand in its segment, and all else is as
in `b`. -/
structure Recording (b : State) (k : Fin 4) (old : Memory) (time : BitVec 48) (c : Context) (body : List CapWord)
    (u : State) : Prop where
  shape : ∃ mem, u = b.recorded k c mem ∧
    HoldsRecord old (c.segment.val * b.ring.segSize) (c.header .inProgress time ++ body) mem
  used : c.used = 12 + body.length

variable {b u : State} {body : List CapWord}

theorem Recording.active (h : Recording b k old time c body u) : u.contexts[k] = some c := by
  obtain ⟨mem, rfl, -⟩ := h.shape
  exact recorded_contexts ..

theorem Recording.rowPut (h : Recording b k old time c body u)
    (hd : d = { c with pre := d.pre, post := d.post, gap := d.gap, used := d.used, nextDue := d.nextDue })
    {values : List Sample} (hused : d.used = c.used + (packRow values).length) :
    Recording b k old time d (body ++ packRow values) (u.rowPut k c.used d values) := by
  obtain ⟨⟨mem, rfl, hrecord⟩, hwords⟩ := h
  have hsegment : d.segment = c.segment := by rw [hd]
  refine ⟨⟨_, recorded_rowPut b hsegment c.used values, ?_⟩, by rw [hused, hwords, List.length_append, Nat.add_assoc]⟩
  have happended := hrecord.append (packRow values)
  rw [List.length_append, length_header, ← hwords] at happended
  have hlong : 12 ≤ (c.header .inProgress time ++ body ++ packRow values).length := by
    rw [List.length_append, List.length_append, length_header]
    omega
  have hset := ((happended.set (j := 3) (by omega) d.word3).set (j := 4) (by rw [List.length_set]; omega)
    (BitVec.ofNat 32 d.gap)).set (j := 7) (by rw [List.length_set, List.length_set]; omega) (BitVec.ofNat 32 d.used)
  rw [List.append_assoc, header_counts hd] at hset
  rw [hsegment]
  exact hset

theorem Recording.writePreRows (rows : List Row) (h : Recording b k old time c body u)
    (hrows : ∀ row ∈ rows, row.values.length = c.snapshot.slots.length) :
    Recording b k old time (c.withPreRows rows) (body ++ rows.flatMap fun row => packRow row.values)
      (u.writePreRows k rows) := by
  induction rows generalizing u c body with
  | nil =>
    rw [List.flatMap_nil, List.append_nil, show c.withPreRows [] = c by simp [Context.withPreRows]]
    exact h
  | cons row rows ih =>
    obtain ⟨hrow, hrest⟩ := List.forall_mem_cons.1 hrows
    have hput := h.rowPut (d := c.withRow true (row.kind == .missing)) (values := row.values) rfl
      (by rw [length_packRow, hrow]; rfl)
    have hall := ih hput hrest
    rw [Context.withPreRows_cons, List.append_assoc] at hall
    rw [State.writePreRows_cons row rows h.active, writeRow_eq_rowPut]
    exact hall

/-! ### The rows of an opening -/

/-- The rows the history holds among the pre rows of a capture whose trigger sweep came `lag` sweeps ago, oldest first. -/
def Receiver.heldRows (rx : Receiver) (prof : Profile) (lag : Nat) : List Row :=
  (List.range prof.pre).reverse.filterMap fun j =>
    if (j + 1) * prof.decimation + lag ≤ rx.history.length then
      rx.history[rx.history.length - ((j + 1) * prof.decimation + lag)]?
    else none

theorem rowFor_back {rx : Receiver} {e trigger : Sweep} {lag x : Nat} (he : rx.expected = some e)
    (hlag : e = trigger + BitVec.ofNat 16 lag) (hl : lag ≤ 1) (hx : 1 ≤ x) (hx' : x ≤ 1024) :
    rx.rowFor (trigger - BitVec.ofNat 16 x) =
      if x + lag ≤ rx.history.length then rx.history[rx.history.length - (x + lag)]? else none := by
  have hback : (e - 1 - (trigger - BitVec.ofNat 16 x)).toNat = x + lag - 1 := by
    rw [hlag]
    have hbits := trigger.isLt
    simp only [BitVec.toNat_sub, BitVec.toNat_add, BitVec.toNat_ofNat, show BitVec.toNat (1 : Sweep) = 1 from rfl]
    omega
  rw [Receiver.rowFor, he]
  simp only [hback]
  rw [show rx.history.length - 1 - (x + lag - 1) = rx.history.length - (x + lag) by omega]
  exact if_congr (by omega) rfl rfl

theorem preRows_eq {rx : Receiver} {prof : Profile} {e trigger : Sweep} {lag : Nat} (he : rx.expected = some e)
    (hlag : e = trigger + BitVec.ofNat 16 lag) (hl : lag ≤ 1) (hdec : 1 ≤ prof.decimation)
    (hpre : prof.pre * prof.decimation ≤ 1024) :
    rx.preRows prof trigger = (rx.heldRows prof lag).map (rx.project prof) := by
  have hrow (j : Nat) (hj : j ∈ (List.range prof.pre).reverse) :
      rx.rowFor (trigger - BitVec.ofNat 16 ((j + 1) * prof.decimation)) =
        if (j + 1) * prof.decimation + lag ≤ rx.history.length then
          rx.history[rx.history.length - ((j + 1) * prof.decimation + lag)]?
        else none := by
    have hj : j + 1 ≤ prof.pre := by simpa using hj
    exact rowFor_back he hlag hl (Nat.mul_pos (Nat.succ_pos j) hdec) ((Nat.mul_le_mul_right _ hj).trans hpre)
  rw [Receiver.preRows, List.filterMap_congr hrow]
  rfl

/-- The trigger sweep is the last that came, `lag` sweeps before the one expected, or there is none. -/
def Receiver.Lags (rx : Receiver) (trigger : Option Sweep) (lag : Nat) : Prop :=
  trigger = none ∨ ∃ e t, rx.expected = some e ∧ trigger = some t ∧ e = t + BitVec.ofNat 16 lag ∧ lag ≤ 1

/-- The history rows that an opening's record keeps (R87, R88). -/
def State.keptRows (s : State) (prof : Profile) (trigger : Option Sweep) (lag : Nat) : List Row :=
  let held := if trigger = none then [] else s.receiver.heldRows prof lag
  held.drop (held.length - ((s.ring.segSize - 12) / ((prof.slots.length + 1) / 2) - 1))

theorem openingRows_eq {s : State} {prof : Profile} {trigger : Option Sweep} {lag : Nat}
    (hlags : s.receiver.Lags trigger lag) (hdec : 1 ≤ prof.decimation) (hpre : prof.pre * prof.decimation ≤ 1024) :
    s.openingRows prof trigger = (s.keptRows prof trigger lag).map (s.receiver.project prof) := by
  obtain rfl | ⟨e, t, he, rfl, hlag, hl⟩ := hlags
  · simp [State.openingRows, State.keptRows]
  · have hsome : ¬some t = none := nofun
    rw [State.openingRows, preRows_eq he hlag hl hdec hpre, trimRows, List.length_map, ← List.map_drop, State.keptRows,
      if_neg hsome]
    rfl

theorem openingRows_congr {s t : State} (hreceiver : t.receiver = s.receiver) (hsize : t.ring.segSize = s.ring.segSize)
    (prof : Profile) (trigger : Option Sweep) : t.openingRows prof trigger = s.openingRows prof trigger := by
  cases trigger with
  | none => rfl
  | some n => simp only [State.openingRows, hreceiver, hsize]

/-! ### The record of an opening -/

/-- The samples of a profile's slots in a history row (R29). -/
def Receiver.samples (rx : Receiver) (prof : Profile) (row : Row) : List Sample :=
  prof.slots.map fun x => row.values.getD (rx.historySet.idxOf x) 0x8000

/-- The context of a capture after the rows kept of the history. -/
def Context.afterKept (c : Context) (rows : List Row) : Context :=
  { c with
    pre := rows.length
    gap := rows.countP fun row => row.kind = .missing
    used := 12 + rows.length * ((c.snapshot.slots.length + 1) / 2) }

section

variable {s t : State} {i : Fin 32} {p : Fin 8} {prof : Profile} {g : Fin 64} {trigger : Option Sweep} {lag : Nat}

/-- What of the state an opening changes besides its record (R84, R85). -/
def State.claimed (t : State) (i : Fin 32) : State :=
  { t with
    captureSeq := t.captureSeq + 1
    watches := setAt t.watches i ((t.watches[i]).map fun x => { x with state := .fired }) }

theorem recording_begun (hseg : ∃ x : Segment, t.ring.segs[g] = some x ∧ x.fill = 12) (hwf : t.ring.mem.wf) (k : Fin 4)
    (i : Fin 32) (p : Fin 8) (prof : Profile) (trigger : Option Sweep) :
    Recording (t.claimed i) k t.ring.mem t.events.timeBase (Context.opened i p prof g (t.captureSeq + 1) trigger) []
      (t.begun k i p prof g trigger) := by
  obtain ⟨x, hx, hfill⟩ := hseg
  have hrecord := (HoldsRecord.nil hwf (t.ring.base g)).append
    ((Context.opened i p prof g (t.captureSeq + 1) trigger).header .inProgress t.events.timeBase)
  have hsegs : setAt t.ring.segs g ((t.ring.segs[g]).map fun x => { x with fill := Config.headerWords }) = t.ring.segs := by
    have hsame : (t.ring.segs[g]).map (fun x => { x with fill := Config.headerWords }) = t.ring.segs[g] := by
      rw [hx, Option.map_some, show Config.headerWords = x.fill from hfill.symm]
    rw [hsame, setAt_getElem_self]
  refine ⟨⟨_, ?_, hrecord⟩, rfl⟩
  have hrecorded (mem : Memory) : (t.claimed i).recorded k (Context.opened i p prof g (t.captureSeq + 1) trigger) mem =
      { t.claimed i with
        contexts := setAt t.contexts k (some (Context.opened i p prof g (t.captureSeq + 1) trigger))
        ring := { t.ring with mem := mem } } :=
    congrArg (fun v : Vector (Option Segment) 64 => ({ t.claimed i with
      contexts := setAt t.contexts k (some (Context.opened i p prof g (t.captureSeq + 1) trigger))
      ring := { t.ring with mem := mem, segs := v } } : State)) hsegs
  rw [hrecorded, State.begun_frame, State.begun_contexts, State.begun_ring]
  rfl

/-- The context after the trimmed rows of the history (R87, R88, R91). -/
theorem withPreRows_project (c : Context) (hpre : c.pre = 0) (hgap : c.gap = 0) (hused : c.used = 12) (rx : Receiver)
    (prof : Profile) (rows : List Row) : c.withPreRows (rows.map (rx.project prof)) = c.afterKept rows := by
  have hmissing : (rows.map (rx.project prof)).countP (fun row => row.kind == .missing) =
      rows.countP fun row => row.kind = .missing := by
    rw [List.countP_map]
    exact List.countP_congr fun row _ => by simp [Receiver.project]
  rw [Context.withPreRows, Context.afterKept, hmissing, List.length_map, hpre, hgap, hused, Nat.zero_add, Nat.zero_add]
  rfl

theorem recording_kept (hseg : ∃ x : Segment, t.ring.segs[g] = some x ∧ x.fill = 12) (hwf : t.ring.mem.wf)
    (hlags : t.receiver.Lags trigger lag) (hdec : 1 ≤ prof.decimation) (hpre : prof.pre * prof.decimation ≤ 1024)
    (k : Fin 4) (i : Fin 32) (p : Fin 8) :
    Recording (t.claimed i) k t.ring.mem t.events.timeBase
      ((Context.opened i p prof g (t.captureSeq + 1) trigger).afterKept (t.keptRows prof trigger lag))
      ((t.keptRows prof trigger lag).flatMap fun row => packRow (t.receiver.samples prof row))
      ((t.begun k i p prof g trigger).writePreRows k ((t.begun k i p prof g trigger).openingRows prof trigger)) := by
  have hrows : (t.begun k i p prof g trigger).openingRows prof trigger =
      (t.keptRows prof trigger lag).map (t.receiver.project prof) := by
    rw [← openingRows_eq hlags hdec hpre]
    refine openingRows_congr ?_ ?_ prof trigger
    · rw [State.begun_frame]
    · rw [State.begun_ring]
  have hlengths : ∀ row ∈ (t.keptRows prof trigger lag).map (t.receiver.project prof),
      row.values.length = prof.slots.length := by
    intro row hrow
    obtain ⟨held, -, rfl⟩ := List.mem_map.1 hrow
    exact List.length_map _
  have hwritten := (recording_begun hseg hwf k i p prof trigger).writePreRows _ hlengths
  rw [withPreRows_project _ rfl rfl rfl, List.nil_append, List.flatMap_map] at hwritten
  rw [hrows]
  exact hwritten

theorem allocate_segSize (hgrant : s.allocate k (s.captureSeq + 1) prof = some (g, t)) :
    t.ring.segSize = s.ring.segSize := by
  obtain ⟨-, -, rfl⟩ | ⟨-, -, rfl⟩ := State.allocate_cases hgrant
  · rw [State.ringLowTest_frame]
    rfl
  · rw [State.grant, State.post_frame]
    rfl

/-- What the rows kept of the history at an opening depend on is not met by the allocation. -/
theorem recording_allocated (hgrant : s.allocate k (s.captureSeq + 1) prof = some (g, t)) (hwf : s.ring.mem.wf)
    (hlags : s.receiver.Lags trigger lag) (hdec : 1 ≤ prof.decimation) (hpre : prof.pre * prof.decimation ≤ 1024)
    (i : Fin 32) (p : Fin 8) :
    Recording (t.claimed i) k s.ring.mem s.events.timeBase
      ((Context.opened i p prof g (s.captureSeq + 1) trigger).afterKept (s.keptRows prof trigger lag))
      ((s.keptRows prof trigger lag).flatMap fun row => packRow (s.receiver.samples prof row))
      ((t.begun k i p prof g trigger).writePreRows k ((t.begun k i p prof g trigger).openingRows prof trigger)) := by
  have hframe := State.allocate_frame hgrant
  have hreceiver : t.receiver = s.receiver := by rw [hframe]
  have hsequence : t.captureSeq = s.captureSeq := by rw [hframe]
  have hevents : t.events = s.events := by rw [hframe]
  have hmem := State.allocate_mem hgrant
  have hkept : t.keptRows prof trigger lag = s.keptRows prof trigger lag := by
    rw [State.keptRows, State.keptRows, hreceiver, allocate_segSize hgrant]
  have hseg : t.ring.segs[g] = some (Segment.granted k (s.captureSeq + 1) prof.autoRelease) := by
    rw [State.allocate_segs hgrant, getElem_setAt_self]
  have h := recording_kept (lag := lag) (trigger := trigger) (prof := prof) ⟨_, hseg, rfl⟩ (hmem.symm ▸ hwf)
    (hreceiver.symm ▸ hlags) hdec hpre k i p
  rwa [hkept, hreceiver, hsequence, hevents, hmem] at h

theorem openCapture_granted (hprof : s.profiles[p] = some prof)
    (hgrant : s.allocate k (s.captureSeq + 1) prof = some (g, t)) (i : Fin 32) (trigger : Option Sweep)
    (o : Option Arrival) : s.openCapture k i p trigger o = (true, ((t.begun k i p prof g trigger).writePreRows k
      ((t.begun k i p prof g trigger).openingRows prof trigger)).triggerRow k prof o) := by
  rw [State.openCapture, hprof]
  simp only [hgrant, State.openGranted_eq]

/-- The state of a capture under way, in the fields of the state before its opening. -/
theorem recorded_allocated (hgrant : s.allocate k (s.captureSeq + 1) prof = some (g, t)) (hsegment : c.segment = g)
    (i : Fin 32) (mem : Memory) : (t.claimed i).recorded k c mem = { t with
      captureSeq := s.captureSeq + 1
      contexts := setAt s.contexts k (some c)
      watches := setAt s.watches i ((s.watches[i]).map fun x => { x with state := .fired })
      ring := { t.ring with
        mem := mem
        segs := setAt t.ring.segs g (some
          { state := .filling k, sequence := s.captureSeq + 1, fill := c.used, highWater := 0,
            autoRelease := prof.autoRelease, endReason := .inProgress }) } } := by
  subst hsegment
  have hframe := State.allocate_frame hgrant
  have hsequence : t.captureSeq = s.captureSeq := by rw [hframe]
  have hcontexts : t.contexts = s.contexts := by rw [hframe]
  have hwatches : t.watches = s.watches := by rw [hframe]
  have hseg : t.ring.segs[c.segment] = some (Segment.granted k (s.captureSeq + 1) prof.autoRelease) := by
    rw [State.allocate_segs hgrant, getElem_setAt_self]
  rw [State.recorded, State.claimed]
  simp only [hseg, hsequence, hcontexts, hwatches]
  rfl

theorem Recording.words {b u : State} {body : List CapWord} (h : Recording b k old time c body u) :
    ∃ mem, u = b.recorded k c mem ∧ ∀ a, mem.read a =
      if c.segment.val * b.ring.segSize ≤ a ∧ a < c.segment.val * b.ring.segSize + c.used then
        (c.header .inProgress time ++ body).getD (a - c.segment.val * b.ring.segSize) 0
      else old.read a := by
  obtain ⟨mem, hu, hrecord⟩ := h.shape
  have hlength : (c.header .inProgress time ++ body).length = c.used := by
    rw [List.length_append, length_header, h.used]
  exact ⟨mem, hu, fun a => hlength ▸ hrecord.read a⟩

/-- An opening on an arrival record writes the trigger row after the rows of the history (R89). -/
theorem recording_trigger {b u : State} {body : List CapWord} (h : Recording b k old time c body u) (a : Arrival) :
    ∃ v, Recording b k old time (c.afterPost a.number false) (body ++ packRow (a.rowOf c.snapshot)) v ∧
      u.triggerRow k c.snapshot (some a) = if c.post + 1 = c.snapshot.post then v.endCapture k .complete else v := by
  refine ⟨_, h.rowPut (d := c.afterPost a.number false) (values := a.rowOf c.snapshot) rfl ?_, ?_⟩
  · rw [length_packRow, Arrival.rowOf, List.length_map]
    rfl
  · rw [State.triggerRow, State.addRow_active h.active, writeRow_afterPostRow]

end

end Sys2Proof.Machine
end

section
/-! FORCE of a watch with an action profile: the fire, its notice, the opening and its record (R66 to R70, R84 to R89). -/

namespace Sys2Proof.Machine

variable {s t u : State} {r : Request} {k : Fin 4} {i : Fin 32} {w : Watch} {p : Fin 8} {prof : Profile} {g : Fin 64}
  {c : Context}

/-! ### What an opening leaves of the port and the session -/

/-- Straps, port and session stay as they are. -/
structure SameLink (s t : State) : Prop where
  strap : t.strap = s.strap
  port : t.port = s.port
  session : t.session = s.session

namespace SameLink

theorem refl (s : State) : SameLink s s := ⟨rfl, rfl, rfl⟩

theorem trans (h : SameLink s t) (h' : SameLink t u) : SameLink s u :=
  ⟨h'.strap.trans h.strap, h'.port.trans h.port, h'.session.trans h.session⟩

theorem rows (h : SameButRows s t) : SameLink s t := by
  rw [show t = _ from h]
  exact ⟨rfl, rfl, rfl⟩

theorem post (s : State) (kind : NoticeKind) (subject : Nat) (cls : SubjectClass) :
    SameLink s (s.post kind subject cls) :=
  ⟨State.post_strap .., State.post_port .., State.post_session ..⟩

theorem endCapture (s : State) (k : Fin 4) (reason : EndReason) : SameLink s (s.endCapture k reason) := by
  rw [State.endCapture_frame]
  exact ⟨rfl, rfl, rfl⟩

theorem triggerRow (s : State) (k : Fin 4) (prof : Profile) (o : Option Arrival) : SameLink s (s.triggerRow k prof o) := by
  cases o with
  | none => exact .refl s
  | some a =>
    cases hc : s.contexts[k] with
    | none =>
      rw [State.triggerRow, State.addRow, hc, State.afterPostRow, hc]
      exact .refl s
    | some c =>
      rw [State.triggerRow, State.addRow_active hc, writeRow_afterPostRow]
      have hrow : SameLink s (s.rowPut k c.used (c.afterPost a.number false) (a.rowOf prof)) := ⟨rfl, rfl, rfl⟩
      split
      · exact hrow.trans (endCapture ..)
      · exact hrow

theorem captureLost (s : State) (i : Fin 32) : SameLink s (s.captureLost i) := by
  have hpost := post (s.bump .capturesLost 1) .captureLost i.val .watch
  rw [captureLost_eq]
  exact ⟨hpost.strap, hpost.port, hpost.session⟩

theorem openCapture (s : State) (k : Fin 4) (i : Fin 32) (p : Fin 8) (trigger : Option Sweep) (o : Option Arrival) :
    SameLink s (s.openCapture k i p trigger o).2 := by
  cases hprof : s.profiles[p] with
  | none =>
    rw [State.openCapture, hprof]
    exact captureLost s i
  | some prof =>
    cases hgrant : s.allocate k (s.captureSeq + 1) prof with
    | none =>
      rw [openCapture_lost hprof hgrant]
      exact captureLost s i
    | some granted =>
      obtain ⟨g, t⟩ := granted
      rw [openCapture_granted hprof hgrant]
      have hallocated : SameLink s t := by
        rw [State.allocate_frame hgrant]
        exact ⟨rfl, rfl, rfl⟩
      have hbegun : SameLink t (t.begun k i p prof g trigger) := by
        rw [State.begun_frame]
        exact ⟨rfl, rfl, rfl⟩
      have hactive : (t.begun k i p prof g trigger).contexts[k] =
          some (Context.opened i p prof g (t.captureSeq + 1) trigger) := by
        rw [State.begun_contexts, getElem_setAt_self]
      exact ((hallocated.trans hbegun).trans (rows (State.writePreRows_frame _ hactive))).trans (triggerRow ..)

theorem keeps (h : SameLink t u) (hk : Keeps s t) : Keeps s u :=
  ⟨h.strap.trans hk.strap, by rw [h.port, ← hk.port]⟩

end SameLink

/-! ### The fire -/

theorem taken_items (granted : Bool) (k : Fin 4) (code : Word) :
    (FireOutcome.taken (if granted then some k else none) (!granted)).items ++ [code] =
      [0, if granted then BitVec.ofNat 16 k.val else 0xFFFF, if granted then 0 else 1, code] := by
  cases granted <;> rfl

theorem exec_force_opening (h : s.permits r .force) (hi : r.number 0 = i.val) (hw : s.watches[i] = some w)
    (hs : w.state = .armed) (hp : w.contents.profile = some p) (hk : s.contexts[k] = none)
    (hlow : ∀ l : Fin 4, l < k → (s.contexts[l]).isSome = true) {granted : Bool}
    (hcapture : (s.fired i w s.receiver.expected).fireCapture i w.contents p k s.receiver.expected none = (granted, u))
    (hlink : SameLink (s.fired i w s.receiver.expected) u) : exec (.force r) s =
      .next (s.controlled u r .force (.ok [BitVec.ofNat 16 i.val, 0, if granted then BitVec.ofNat 16 k.val else 0xFFFF,
        if granted then 0 else 1, BitVec.ofNat 16 (watchCode u.watches[i])])) := by
  have hup : s.port.link = .up := h.1.1.1.2.1
  have hexec := exec_force h hi hw hs
    (fire_opening hw hp (idleContext_first hk hlow) (by rw [takeFire_eq hup hw]; exact hcapture))
    (hlink.keeps ⟨rfl, rfl⟩) hlink.session
  rw [taken_items] at hexec
  exact hexec

/-- A fire's opening and its notice, in the orders there are. -/
theorem force_openings (h : s.permits r .force) (hi : r.number 0 = i.val) (hw : s.watches[i] = some w)
    (hs : w.state = .armed) (hp : w.contents.profile = some p) (hk : s.contexts[k] = none)
    (hlow : ∀ l : Fin 4, l < k → (s.contexts[l]).isSome = true) :
    let fired := s.fired i w s.receiver.expected
    let drawn : State := { fired with script := s.draw.2.script, draws := s.draw.2.draws }
    let opened (u : State) : Bool × State := u.openCapture k i p s.receiver.expected none
    let answer (granted : Bool) (u : State) : Host.Outcome State Fault Refusal :=
      .next (s.controlled u r .force (.ok [BitVec.ofNat 16 i.val, 0, if granted then BitVec.ofNat 16 k.val else 0xFFFF,
        if granted then 0 else 1, BitVec.ofNat 16 (watchCode u.watches[i])]))
    (w.contents.notify = false → exec (.force r) s = answer (opened fired).1 (opened fired).2) ∧
    (w.contents.notify = true → s.draw.1 % 2 = 0 →
      let u := opened (drawn.post .watchFired i.val .watch)
      exec (.force r) s = answer u.1 u.2) ∧
    (w.contents.notify = true → s.draw.1 % 2 = 1 →
      exec (.force r) s = answer (opened drawn).1 ((opened drawn).2.post .watchFired i.val .watch)) := by
  intro fired drawn opened answer
  have hdraw : fired.draw = (s.draw.1, drawn) := draw_congr rfl rfl
  have hdrawn : SameLink fired drawn := ⟨rfl, rfl, rfl⟩
  refine ⟨fun hn => ?_, fun hn h0 => ?_, fun hn h1 => ?_⟩
  · exact exec_force_opening h hi hw hs hp hk hlow (fireCapture_unnotified hn ..) (SameLink.openCapture ..)
  · have hfirst := fireCapture_notice_first (s := fired) hn (by rw [hdraw]; exact h0) i p k s.receiver.expected none
    rw [hdraw] at hfirst
    exact exec_force_opening h hi hw hs hp hk hlow hfirst ((hdrawn.trans (SameLink.post ..)).trans (SameLink.openCapture ..))
  · have hlast := fireCapture_notice_last (s := fired) hn (by rw [hdraw]; exact h1) i p k s.receiver.expected none
    rw [hdraw] at hlast
    exact exec_force_opening h hi hw hs hp hk hlow hlast ((hdrawn.trans (SameLink.openCapture ..)).trans (SameLink.post ..))

/-! ### The opening -/

theorem opening_lost (hprof : s.profiles[p] = some prof) (hnone : s.allocate k (s.captureSeq + 1) prof = none) (i : Fin 32)
    (trigger : Option Sweep) (o : Option Arrival) : s.openCapture k i p trigger o = (false,
      { (s.bump .capturesLost 1).post .captureLost i.val .watch with
        watches := setAt s.watches i ((s.watches[i]).map Watch.endStep) }) := by
  rw [openCapture_lost hprof hnone, captureLost_eq]

/-- An opening that is not on an arrival record (R66, R86 to R88). -/
theorem opening_unswept (hprof : s.profiles[p] = some prof)
    (hgrant : s.allocate k (s.captureSeq + 1) prof = some (g, t)) (hwf : s.ring.mem.wf) (hdec : 1 ≤ prof.decimation)
    (hpre : prof.pre * prof.decimation ≤ 1024) (i : Fin 32) :
    let rows := s.keptRows prof s.receiver.expected 0
    let c := (Context.opened i p prof g (s.captureSeq + 1) s.receiver.expected).afterKept rows
    let record := c.header .inProgress s.events.timeBase ++ rows.flatMap fun row => packRow (s.receiver.samples prof row)
    ∃ mem : Memory,
      (∀ a, mem.read a = if g.val * s.ring.segSize ≤ a ∧ a < g.val * s.ring.segSize + c.used then
        record.getD (a - g.val * s.ring.segSize) 0 else s.ring.mem.read a) ∧
      s.openCapture k i p s.receiver.expected none = (true, (t.claimed i).recorded k c mem) := by
  intro rows c record
  have hlags : s.receiver.Lags s.receiver.expected 0 := by
    cases he : s.receiver.expected with
    | none => exact .inl rfl
    | some e => exact .inr ⟨e, e, he, rfl, (BitVec.add_zero e).symm, by decide⟩
  obtain ⟨mem, hu, hwords⟩ := (recording_allocated hgrant hwf hlags hdec hpre i p).words
  have hsize : (t.claimed i).ring.segSize = s.ring.segSize :=
    (show t.ring.segSize = s.ring.segSize from allocate_segSize hgrant)
  rw [hsize] at hwords
  refine ⟨mem, hwords, ?_⟩
  rw [openCapture_granted hprof hgrant, hu]
  rfl

/-- An opening on an arrival record, whose sweep is the trigger sweep (R89). -/
theorem opening_swept (hprof : s.profiles[p] = some prof)
    (hgrant : s.allocate k (s.captureSeq + 1) prof = some (g, t)) (hwf : s.ring.mem.wf) (hdec : 1 ≤ prof.decimation)
    (hpre : prof.pre * prof.decimation ≤ 1024) (i : Fin 32) {a : Arrival} (he : s.receiver.expected = some (a.number + 1)) :
    let rows := s.keptRows prof (some a.number) 1
    let c := ((Context.opened i p prof g (s.captureSeq + 1) (some a.number)).afterKept rows).afterPost a.number false
    let record := c.header .inProgress s.events.timeBase ++
      ((rows.flatMap fun row => packRow (s.receiver.samples prof row)) ++ packRow (a.rowOf prof))
    ∃ mem : Memory,
      (∀ a, mem.read a = if g.val * s.ring.segSize ≤ a ∧ a < g.val * s.ring.segSize + c.used then
        record.getD (a - g.val * s.ring.segSize) 0 else s.ring.mem.read a) ∧
      s.openCapture k i p (some a.number) (some a) = (true,
        if prof.post = 1 then ((t.claimed i).recorded k c mem).endCapture k .complete
        else (t.claimed i).recorded k c mem) := by
  intro rows c record
  have hlags : s.receiver.Lags (some a.number) 1 := .inr ⟨_, _, he, rfl, rfl, le_rfl⟩
  obtain ⟨v, hv, hrow⟩ := recording_trigger (recording_allocated hgrant hwf hlags hdec hpre i p) a
  obtain ⟨mem, rfl, hwords⟩ := hv.words
  have hsize : (t.claimed i).ring.segSize = s.ring.segSize :=
    (show t.ring.segSize = s.ring.segSize from allocate_segSize hgrant)
  rw [hsize] at hwords
  refine ⟨mem, hwords, ?_⟩
  rw [openCapture_granted hprof hgrant]
  exact congrArg (Prod.mk true) (hrow.trans (if_congr eq_comm rfl rfl))

/-! ### The ring-low test beside the rest of an opening -/

/-- The ring-low test reads how many segments are FREE, its latch, RING_LOW and the notice unit (R111). -/
theorem ringLowTest_congr (hn : t.notices = s.notices) (hc : t.counters = s.counters) (hp : t.params.ringLow = s.params.ringLow)
    (hlow : t.ring.low = s.ring.low) (hfree : t.ring.freeCount = s.ring.freeCount) : t.ringLowTest = { t with
      notices := s.ringLowTest.notices
      counters := s.ringLowTest.counters
      ring := { t.ring with low := s.ringLowTest.ring.low } } := by
  rw [State.ringLowTest, State.ringLowTest, hfree, hp, hlow]
  split
  · split
    · rw [← hn, ← hc, ← hlow]
    · rw [State.post_congr s t _ _ _ hn.symm hc.symm]
  · simp only [← hn, ← hc]

theorem freeCount_setAt_taken {ring ring' : Ring} {x : Segment} (hcount : ring'.segCount = ring.segCount)
    (hsegs : ring'.segs = setAt ring.segs g (some x)) (hg : (ring.segs[g]).isSome = true) :
    ring'.freeCount = ring.freeCount := by
  rw [freeCount_eq, freeCount_eq, hcount, hsegs]
  refine List.countP_congr fun f _ => ?_
  by_cases hf : f = g
  · subst hf
    obtain ⟨y, hy⟩ := Option.isSome_iff_exists.1 hg
    rw [getElem_setAt_self, hy]
    exact Iff.rfl
  · simp only [getElem_setAt_ne _ (Ne.symm hf)]

end Sys2Proof.Machine
end

section
/-! FORCE opens a capture: the three parts of the statement put together (R66 to R70, R84 to R89, R108 to R111). -/

namespace Sys2Proof.Machine

variable {s t : State} {r : Request} {k : Fin 4} {i : Fin 32} {w : Watch} {p : Fin 8} {prof : Profile} {g : Fin 64}
  {c : Context}

/-- The trigger row is one row more of the record. -/
theorem used_trigger (rows : Nat) (size : Nat) : 12 + rows * size + size = 12 + (rows + 1) * size := by
  rw [Nat.add_mul, Nat.one_mul, Nat.add_assoc]

/-- A capture under way in the segment that it was granted, but for the ring-low test (R85, R109). -/
def State.opened (s : State) (k : Fin 4) (i : Fin 32) (c : Context) (mem : Memory) : State :=
  { s with
    captureSeq := s.captureSeq + 1
    contexts := setAt s.contexts k (some c)
    watches := setAt s.watches i ((s.watches[i]).map fun x => { x with state := .fired })
    ring := { s.ring with
      mem := mem
      cursor := (c.segment.val + 1) % s.ring.segCount
      segs := setAt s.ring.segs c.segment (some
        { state := .filling k, sequence := s.captureSeq + 1, fill := c.used, highWater := 0,
          autoRelease := c.snapshot.autoRelease, endReason := .inProgress }) } }

/-- Where the segment was FREE the ring-low test may be taken last (R109, R111). -/
theorem recorded_granted (hgrant : s.allocate k (s.captureSeq + 1) c.snapshot =
      some (c.segment, (s.grant c.segment k (s.captureSeq + 1) c.snapshot.autoRelease).ringLowTest)) (i : Fin 32)
    (mem : Memory) :
    ((s.grant c.segment k (s.captureSeq + 1) c.snapshot.autoRelease).ringLowTest.claimed i).recorded k c mem =
      (s.opened k i c mem).ringLowTest := by
  have hsegs (x y : Option Segment) : setAt (setAt s.ring.segs c.segment x) c.segment y = setAt s.ring.segs c.segment y :=
    setAt_setAt ..
  have hgranted : (s.grant c.segment k (s.captureSeq + 1) c.snapshot.autoRelease).ring.segs = setAt s.ring.segs c.segment
      (some (Segment.granted k (s.captureSeq + 1) c.snapshot.autoRelease)) := rfl
  have htest := ringLowTest_congr (s := s.grant c.segment k (s.captureSeq + 1) c.snapshot.autoRelease)
    (t := s.opened k i c mem) rfl rfl rfl rfl (freeCount_setAt_taken (g := c.segment) rfl
      (by rw [hgranted, hsegs]; rfl) (by rw [hgranted, getElem_setAt_self]; rfl))
  rw [recorded_allocated hgrant rfl, htest,
    State.ringLowTest_frame (s.grant c.segment k (s.captureSeq + 1) c.snapshot.autoRelease)]
  simp only [hgranted, hsegs]
  rfl

/-- Settles O26. -/
theorem forceOpensCapture : Obligations.ForceOpensCapture := by
  unfold Obligations.ForceOpensCapture
  refine ⟨?fire, ?opening, ?whole⟩
  case fire =>
    intro s r i w p k h hi hw hs hp hk hlow
    exact force_openings h hi hw hs hp hk hlow
  case opening =>
    intro s k i p prof trigger o hprof
    refine ⟨fun hnone => opening_lost hprof hnone i trigger o, ?_⟩
    intro g t lag hgrant h1 h16 hdec hpre hsegSize hwf hlag size held rows last used c record
    obtain ⟨rfl, rfl, rfl⟩ | ⟨a, rfl, rfl, he, rfl⟩ := hlag
    · obtain ⟨mem, hwords, hopen⟩ := opening_unswept hprof hgrant hwf hdec hpre i
      have hrecord : c.header .inProgress s.events.timeBase ++
          (s.keptRows prof s.receiver.expected 0).flatMap (fun row => packRow (s.receiver.samples prof row)) = record := by
        have hrows := List.flatMap_map (s.receiver.samples prof) packRow (l := s.keptRows prof s.receiver.expected 0)
        rw [← hrows]
        exact congrArg (fun l => c.header .inProgress s.events.timeBase ++ List.flatMap packRow l) (List.append_nil _).symm
      rw [← hrecord]
      refine ⟨mem, hwords, hopen.trans (congrArg (Prod.mk true) ?_)⟩
      rw [recorded_allocated hgrant rfl]
      exact (if_neg (by simp)).symm
    · obtain ⟨mem, hwords, hopen⟩ := opening_swept hprof hgrant hwf hdec hpre i he
      have hc : ((Context.opened i p prof g (s.captureSeq + 1) (some a.number)).afterKept
          (s.keptRows prof (some a.number) 1)).afterPost a.number false = c :=
        congrArg (fun n : Nat => ({ c with used := n } : Context)) (used_trigger rows.length size)
      have hrecord : c.header .inProgress s.events.timeBase ++
          ((s.keptRows prof (some a.number) 1).flatMap (fun row => packRow (s.receiver.samples prof row)) ++
            packRow (a.rowOf prof)) = record := by
        have hrows := List.flatMap_map (s.receiver.samples prof) packRow (l := s.keptRows prof (some a.number) 1)
        have hlast : packRow (a.rowOf prof) = [a.rowOf prof].flatMap packRow := (List.append_nil _).symm
        rw [← hrows, hlast, ← List.flatMap_append]
        rfl
      rw [hc] at hwords hopen
      rw [← hrecord]
      refine ⟨mem, hwords, hopen.trans (congrArg (Prod.mk true) ?_)⟩
      rw [recorded_allocated hgrant rfl]
      exact if_congr (by simp) rfl rfl
  case whole =>
    intro s r i w p prof k g x e h hi hw hs hn hp hprof h1 h16 hdec hpre he hwf hk hlow hcount hsize hx hg hfree htaken
      size held rows used c record
    obtain ⟨u, hu⟩ : ∃ u, u = s.fired i w s.receiver.expected := ⟨_, rfl⟩
    have hring : u.ring = s.ring := by rw [hu]; rfl
    have hreceiver : u.receiver = s.receiver := by rw [hu]; rfl
    have hevents : u.events = s.events := by rw [hu]; rfl
    have hgrant : u.allocate k (u.captureSeq + 1) prof =
        some (g, (u.grant g k (u.captureSeq + 1) prof.autoRelease).ringLowTest) :=
      (ringAllocatesAndTests.1 u k (u.captureSeq + 1) prof (hring ▸ hcount)).1 x g (hring ▸ hx) (hring ▸ hg) (hring ▸ hfree)
        (hring ▸ htaken)
    have hprof' : u.profiles[p] = some prof := by rw [hu]; exact hprof
    obtain ⟨mem, hwords, hopen⟩ := opening_unswept hprof' hgrant (hring ▸ hwf) hdec hpre i
    have hkept : u.keptRows prof (some e) 0 = rows := by
      rw [State.keptRows, if_neg nofun, hring, hreceiver]
      rfl
    have hc : (Context.opened i p prof g (u.captureSeq + 1) (some e)).afterKept rows = c := by
      rw [hu]
      rfl
    rw [hreceiver, he, hkept, hc, hring, hevents] at hwords
    rw [hreceiver, he, hkept, hc, recorded_granted (c := c) hgrant] at hopen
    have hstate : u.opened k i c mem = { s with
        counters := setAt s.counters Counter.fires.index (satAdd (s.counter .fires) 1)
        port := { s.port with markWord := s.port.markWord ||| askedMark w.contents.markCode }
        lines := { s.lines with
          tout0 := startPulse w.contents.pulse.l0 s.lines.tout0, tout1 := startPulse w.contents.pulse.l1 s.lines.tout1 }
        captureSeq := s.captureSeq + 1
        contexts := setAt s.contexts k (some c)
        watches := setAt s.watches i (some { w with state := .fired, runtime := { w.runtime with
          lastFire := some e, firesLeft := w.runtime.firesLeft.map (· - 1) } })
        ring := { s.ring with
          mem := mem, cursor := (g.val + 1) % s.ring.segCount
          segs := setAt s.ring.segs g (some
            { state := .filling k, sequence := s.captureSeq + 1, fill := used, highWater := 0,
              autoRelease := prof.autoRelease, endReason := .inProgress }) } } := by
      rw [hu, State.opened, State.fired, he]
      simp only [setAt_setAt, getElem_setAt_self, Option.map_some]
      rfl
    have hcode : watchCode (u.opened k i c mem).ringLowTest.watches[i] = 3 := by
      rw [State.ringLowTest_watches, hstate, getElem_setAt_self]
      rfl
    have hexec := (force_openings h hi hw hs hp hk hlow).1 hn
    rw [← hu, he] at hexec
    simp only [hopen, hcode, if_true] at hexec
    rw [hstate] at hexec
    exact ⟨mem, hwords, hexec⟩

end Sys2Proof.Machine
end

section
/-! Watch, profile and event entry items read back as what was written (R40, R43, R78, R81, R145, R146, R190). -/

namespace Sys2Proof.Machine

variable {b front tail : List Word} {n x : Nat}

/-! ### Written words -/

theorem paramSmall_written (h : paramWord b n = some (BitVec.ofNat 16 x)) (hx : x < 65536) : paramSmall b n = some x := by
  rw [paramSmall, h, Option.map_some, BitVec.toNat_ofNat, Nat.mod_eq_of_lt hx]

theorem paramEnum_written (h : paramWord b n = some (BitVec.ofNat 16 x)) (hx : x < 256) : paramEnum b n = some x := by
  have hword : (BitVec.ofNat 16 x).toNat = x := by
    rw [BitVec.toNat_ofNat]
    exact Nat.mod_eq_of_lt (by omega)
  rw [paramEnum, h, Option.map_some, hword, Nat.mod_eq_of_lt hx]

theorem paramYesNo_written {yes : Bool} (h : paramWord b n = some (BitVec.ofNat 16 (if yes then 1 else 0))) :
    paramYesNo b n = some yes := by
  cases yes with
  | false => rw [paramYesNo, paramEnum_written h (by decide)]; rfl
  | true => rw [paramYesNo, paramEnum_written h (by decide)]; rfl

theorem paramFull_written (h : paramWord b n = some 1) (hv : paramWord b (n + 1) = some (BitVec.ofNat 16 x))
    (hx : x < 65536) : paramFull b n = some x := by
  rw [paramFull, h, hv]
  simp only [if_true, BitVec.toNat_ofNat, Nat.mod_eq_of_lt hx]

theorem pulseOf_pulseWord (p : PulseLines) : pulseOf (pulseWord p) = p ∧ (pulseWord p).toNat ≤ 3 := by
  obtain ⟨l0, l1⟩ := p
  cases l0 <;> cases l1 <;> decide

theorem needThat_ok {α : Type} {y : α} {p : α → Bool} (h : p y = true) (check : Nat) : needThat check (some y) p = .ok y :=
  if_pos h

theorem readPulse_written {p : PulseLines} (check : Nat) (h : paramWord b n = some (pulseWord p)) :
    (needThat check (paramWord b n) fun w => decide (w.toNat ≤ 3)) = .ok (pulseWord p) := by
  rw [h]
  exact needThat_ok (p := fun w : Word => decide (w.toNat ≤ 3)) (decide_eq_true (pulseOf_pulseWord p).2) check

theorem needTrue_ok {y : Bool} (h : y = true) (check : Nat) : needTrue check y = .ok () := if_pos h

theorem readOptIndex_written {m : Nat} {o : Option (Fin m)} (hm : m ≤ 65535) (check : Nat)
    (h : paramWord b n = some (BitVec.ofNat 16 ((o.map Fin.val).getD absentNumber))) :
    readOptIndex check m (paramSmall b n) = .ok o := by
  cases o with
  | none =>
    rw [paramSmall_written (x := absentNumber) h (by decide)]
    rfl
  | some i =>
    have hlt := i.isLt
    have hi : ¬i.val = absentNumber := by
      rw [absentNumber]
      omega
    rw [paramSmall_written (x := i.val) h (by omega), readOptIndex, needAt_some, ok_bind, if_neg hi,
      indexBelow_eq_some i rfl]
    rfl

/-! ### The fields of a watch's condition -/

theorem readSlot_written {slot : BitVec 8} (h : paramWord b 3 = some (BitVec.ofNat 16 slot.toNat)) :
    readSlot b = .ok slot := by
  have hlt := slot.isLt
  rw [readSlot, paramSmall_written h (by omega), needThat_ok (by simpa using by omega)]
  exact congrArg Except.ok ((BitVec.ofNat_toNat 8 slot).trans (BitVec.setWidth_eq _))

theorem readThreshold_written {check place : Nat} {v : Sample} (h : paramWord b place = some v) (hv : v ≠ 0x8000) :
    readThreshold check place b = .ok v := by
  rw [readThreshold, h]
  exact needThat_ok (p := fun w => w != absentCode) (bne_iff_ne.2 hv) check

theorem readBoth_written {lo hi : Sample} {strict : Bool} (h4 : paramWord b 4 = some lo) (h5 : paramWord b 5 = some hi)
    (hlo : lo ≠ 0x8000) (hhi : hi ≠ 0x8000)
    (horder : (if strict then decide (lo.toInt < hi.toInt) else decide (lo.toInt ≤ hi.toInt)) = true) :
    readBoth strict b = .ok (lo, hi) := by
  rw [readBoth, readThreshold_written h4 hlo, ok_bind, readThreshold_written h5 hhi, ok_bind, needTrue_ok horder, ok_bind]
  rfl

section Sources

variable (b)

theorem readCondition_level (h : paramEnum b 1 = some 0) : readCondition b = readLevel b := by
  rw [readCondition, h]
  rfl

theorem readCondition_rise (h : paramEnum b 1 = some 1) : readCondition b =
    readSlot b >>= fun slot => readBoth true b >>= fun p => .ok (.rise slot p.1 p.2) := by
  rw [readCondition, h]
  rfl

theorem readCondition_fall (h : paramEnum b 1 = some 2) : readCondition b =
    readSlot b >>= fun slot => readBoth true b >>= fun p => .ok (.fall slot p.1 p.2) := by
  rw [readCondition, h]
  rfl

theorem readCondition_step (h : paramEnum b 1 = some 3) : readCondition b =
    readSlot b >>= fun slot => needThat 70 (paramFull b 6) (fun n => n != 0) >>= fun n => .ok (.step slot n) := by
  rw [readCondition, h]
  rfl

theorem readCondition_mark (h : paramEnum b 1 = some 4) : readCondition b =
    needThat 80 (paramWord b 8) (fun w => w != 0) >>= fun m => .ok (.mark m) := by
  rw [readCondition, h]
  rfl

theorem readCondition_event (h : paramEnum b 1 = some 5) : readCondition b =
    needAt 90 ((paramSmall b 9).bind (indexBelow 16)) >>= fun k => .ok (.event k) := by
  rw [readCondition, h]
  rfl

theorem readCondition_line (h : paramEnum b 1 = some 6) : readCondition b =
    needAt 91 ((paramEnum b 10).bind readLine) >>= fun line =>
      needAt 92 ((paramEnum b 11).bind readEdge) >>= fun edge => .ok (.line line edge) := by
  rw [readCondition, h]
  rfl

theorem readCondition_unknown (h : paramEnum b 1 = some (x + 7)) : readCondition b = .error 20 := by
  rw [readCondition, h]
  rfl

theorem readLevel_above (h : paramEnum b 2 = some 0) : readLevel b =
    readSlot b >>= fun slot => readThreshold 51 5 b >>= fun hi => .ok (.above slot hi) := by
  rw [readLevel, h]
  rfl

theorem readLevel_below (h : paramEnum b 2 = some 1) : readLevel b =
    readSlot b >>= fun slot => readThreshold 50 4 b >>= fun lo => .ok (.below slot lo) := by
  rw [readLevel, h]
  rfl

theorem readLevel_inside (h : paramEnum b 2 = some 2) : readLevel b =
    readSlot b >>= fun slot => readBoth false b >>= fun p => .ok (.inside slot p.1 p.2) := by
  rw [readLevel, h]
  rfl

theorem readLevel_outside (h : paramEnum b 2 = some 3) : readLevel b =
    readSlot b >>= fun slot => readBoth false b >>= fun p => .ok (.outside slot p.1 p.2) := by
  rw [readLevel, h]
  rfl

theorem readLevel_unknown (h : paramEnum b 2 = some (x + 4)) : readLevel b = .error 30 := by
  rw [readLevel, h]
  rfl

end Sources

/-- Thresholds, step and mark within the ranges of R35. -/
def Condition.Fits : Condition → Prop
  | .above _ hi => hi ≠ 0x8000
  | .below _ lo => lo ≠ 0x8000
  | .inside _ lo hi => lo ≠ 0x8000 ∧ hi ≠ 0x8000 ∧ lo.toInt ≤ hi.toInt
  | .outside _ lo hi => lo ≠ 0x8000 ∧ hi ≠ 0x8000 ∧ lo.toInt ≤ hi.toInt
  | .rise _ lo hi => lo ≠ 0x8000 ∧ hi ≠ 0x8000 ∧ lo.toInt < hi.toInt
  | .fall _ lo hi => lo ≠ 0x8000 ∧ hi ≠ 0x8000 ∧ lo.toInt < hi.toInt
  | .step _ n => 1 ≤ n ∧ n ≤ 65535
  | .mark m => m ≠ 0
  | .event _ => True
  | .line _ _ => True

/-- The source and its fields are read back (R40, R43). -/
theorem readCondition_items (w : Word) (c : Condition) (tail : List Word) (h : c.Fits) :
    readCondition ([w] ++ c.items ++ tail) = .ok c := by
  cases c with
  | above slot hi =>
    rw [readCondition_level _ (paramEnum_written rfl (by decide)), readLevel_above _ (paramEnum_written rfl (by decide)),
      readSlot_written rfl, ok_bind, readThreshold_written rfl h, ok_bind]
  | below slot lo =>
    rw [readCondition_level _ (paramEnum_written rfl (by decide)), readLevel_below _ (paramEnum_written rfl (by decide)),
      readSlot_written rfl, ok_bind, readThreshold_written rfl h, ok_bind]
  | inside slot lo hi =>
    obtain ⟨hlo, hhi, horder⟩ := h
    rw [readCondition_level _ (paramEnum_written rfl (by decide)), readLevel_inside _ (paramEnum_written rfl (by decide)),
      readSlot_written rfl, ok_bind, readBoth_written (strict := false) rfl rfl hlo hhi (decide_eq_true horder), ok_bind]
  | outside slot lo hi =>
    obtain ⟨hlo, hhi, horder⟩ := h
    rw [readCondition_level _ (paramEnum_written rfl (by decide)), readLevel_outside _ (paramEnum_written rfl (by decide)),
      readSlot_written rfl, ok_bind, readBoth_written (strict := false) rfl rfl hlo hhi (decide_eq_true horder), ok_bind]
  | rise slot lo hi =>
    obtain ⟨hlo, hhi, horder⟩ := h
    rw [readCondition_rise _ (paramEnum_written rfl (by decide)), readSlot_written rfl, ok_bind,
      readBoth_written (strict := true) rfl rfl hlo hhi (decide_eq_true horder), ok_bind]
  | fall slot lo hi =>
    obtain ⟨hlo, hhi, horder⟩ := h
    rw [readCondition_fall _ (paramEnum_written rfl (by decide)), readSlot_written rfl, ok_bind,
      readBoth_written (strict := true) rfl rfl hlo hhi (decide_eq_true horder), ok_bind]
  | step slot n =>
    obtain ⟨hlow, hhigh⟩ := h
    rw [readCondition_step _ (paramEnum_written rfl (by decide)), readSlot_written rfl, ok_bind,
      paramFull_written (x := n) rfl rfl (by omega), needThat_ok (p := fun n => n != 0) (bne_iff_ne.2 (by omega)), ok_bind]
  | mark m =>
    have hread : paramWord ([w] ++ Condition.items (.mark m) ++ tail) 8 = some m := rfl
    rw [readCondition_mark _ (paramEnum_written rfl (by decide)), hread,
      needThat_ok (p := fun m => m != 0) (bne_iff_ne.2 h), ok_bind]
  | event k =>
    have hlt := k.isLt
    rw [readCondition_event _ (paramEnum_written rfl (by decide)), paramSmall_written (x := k.val) rfl (by omega),
      Option.bind_some, indexBelow_eq_some k rfl, needAt_some, ok_bind]
  | line l e =>
    rw [readCondition_line _ (paramEnum_written rfl (by decide))]
    cases l <;> cases e <;> rfl

/-! ### The other fields of a watch -/

/-- A watch's source counts runs to the qualifier (R35). -/
def Condition.counts : Condition → Bool
  | .above _ _ | .below _ _ | .inside _ _ _ | .outside _ _ _ | .mark _ => true
  | .rise _ _ _ | .fall _ _ _ | .step _ _ | .event _ | .line _ _ => false

theorem readQualifier_eq (c : Condition) (b : List Word) : readQualifier c b =
    if c.counts then needThat 100 (paramSmall b 12) fun n => n != 0 && n ≤ 255 else .ok 1 := by
  cases c <;> rfl

theorem readQualifier_written {c : Condition} {q : Nat} (h : paramWord b 12 = some (BitVec.ofNat 16 q))
    (hq : if c.counts then 1 ≤ q ∧ q ≤ 255 else q = 1) : readQualifier c b = .ok q := by
  rw [readQualifier_eq]
  by_cases hc : c.counts = true
  · rw [if_pos hc] at hq ⊢
    obtain ⟨hlow, hhigh⟩ := hq
    rw [paramSmall_written h (by omega)]
    exact needThat_ok (p := fun n => n != 0 && decide (n ≤ 255)) (by simp; omega) 100
  · rw [if_neg hc] at hq ⊢
    rw [hq]

theorem readPrecondition_written {own : Nat} {o : Option Precondition}
    (h : b.drop 13 = itemSmallOpt (o.map (·.watch.val)) ++ itemFullOpt (o.map fun p => BitVec.ofNat 16 p.window) ++ tail)
    (ho : ∀ p, o = some p → p.watch.val < own ∧ 1 ≤ p.window ∧ p.window ≤ 65535) : readPrecondition own b = .ok o := by
  have hword (n : Nat) : paramWord b (13 + n) = (b.drop 13)[n]? := List.getElem?_drop.symm
  rw [h] at hword
  cases o with
  | none =>
    have hpresence : paramPresence b 14 = some false := by
      rw [paramPresence, hword 1, hword 2]
      rfl
    rw [readPrecondition, paramSmall_written (x := absentNumber) (hword 0) (by decide), needAt_some, ok_bind, if_pos rfl,
      hpresence]
    rfl
  | some p =>
    obtain ⟨hbelow, hlow, hhigh⟩ := ho p rfl
    have hlt := p.watch.isLt
    have habsent : ¬p.watch.val = absentNumber := by
      rw [absentNumber]
      omega
    rw [readPrecondition, paramSmall_written (x := p.watch.val) (hword 0) (by omega), needAt_some, ok_bind, if_neg habsent,
      indexBelow_eq_some p.watch rfl, needAt_some, ok_bind, needTrue_ok (decide_eq_true hbelow), ok_bind,
      paramFull_written (x := p.window) (hword 1) (hword 2) (by omega),
      needThat_ok (p := fun n => n != 0) (bne_iff_ne.2 (by omega)),
      ok_bind]
    rfl

theorem readBudget_written {o : Option Nat} (h : paramWord b 17 = some (BitVec.ofNat 16 (o.getD absentNumber)))
    (ho : ∀ n, o = some n → 1 ≤ n ∧ n ≤ 255) : readBudget b = .ok o := by
  cases o with
  | none =>
    rw [readBudget, paramSmall_written h (by decide)]
    rfl
  | some n =>
    obtain ⟨hlow, hhigh⟩ := ho n rfl
    have habsent : ¬n = absentNumber := by
      rw [absentNumber]
      omega
    rw [readBudget, paramSmall_written (x := n) h (by omega), needAt_some, ok_bind, if_neg habsent,
      needTrue_ok (by simp; omega), ok_bind]
    rfl

theorem length_itemFullOpt_two (o : Option (BitVec 16)) : ∃ v w, itemFullOpt o = [v, w] := by
  cases o with
  | none => exact ⟨_, _, rfl⟩
  | some v => exact ⟨_, _, rfl⟩

/-- The contents of a watch are read back, whatever stands at their index (R40, R43). -/
theorem readContents_items {own : Nat} (w : Word) (c : Contents) (rest : List Word) (hcondition : c.condition.Fits)
    (hqualifier : if c.condition.counts then 1 ≤ c.qualifier ∧ c.qualifier ≤ 255 else c.qualifier = 1)
    (hprecondition : ∀ p, c.precondition = some p → p.watch.val < own ∧ 1 ≤ p.window ∧ p.window ≤ 65535)
    (hbudget : ∀ n, c.budget = some n → 1 ≤ n ∧ n ≤ 255) (hholdoff : c.holdoff ≤ 65535) :
    readContents own ([w] ++ c.items ++ rest) = .ok c := by
  obtain ⟨u, v, hwindow⟩ := length_itemFullOpt_two (c.precondition.map fun p => BitVec.ofNat 16 p.window)
  obtain ⟨tail, htail⟩ : ∃ tail, tail = itemSmall c.group.val ++ itemSmallOpt c.budget ++
      itemFull (BitVec.ofNat 16 c.holdoff) ++ itemSmallOpt (c.profile.map Fin.val) ++
      itemSmallOpt (c.markCode.map Fin.val) ++ [pulseWord c.pulse] ++ itemYesNo c.notify ++ rest := ⟨_, rfl⟩
  have hbody : [w] ++ c.items ++ rest = [w] ++ c.condition.items ++ (itemSmall c.qualifier ++
      (itemSmallOpt (c.precondition.map (·.watch.val)) ++
        itemFullOpt (c.precondition.map fun p => BitVec.ofNat 16 p.window) ++ tail)) := by
    rw [htail, Contents.items]
    simp only [List.append_assoc]
  rw [hbody]
  obtain ⟨b, hb⟩ : ∃ b, b = [w] ++ c.condition.items ++ (itemSmall c.qualifier ++
      (itemSmallOpt (c.precondition.map (·.watch.val)) ++
        itemFullOpt (c.precondition.map fun p => BitVec.ofNat 16 p.window) ++ tail)) := ⟨_, rfl⟩
  have hlong : ([w] ++ c.condition.items).length = 12 := by simp
  have hafter : b.drop 12 = itemSmall c.qualifier ++ (itemSmallOpt (c.precondition.map (·.watch.val)) ++
        itemFullOpt (c.precondition.map fun p => BitVec.ofNat 16 p.window) ++ tail) := by
    rw [hb, ← hlong, List.drop_left]
  have hword (n : Nat) : paramWord b (12 + n) = (b.drop 12)[n]? := List.getElem?_drop.symm
  rw [hafter, hwindow] at hword
  have hthirteen : b.drop 13 = itemSmallOpt (c.precondition.map (·.watch.val)) ++
        itemFullOpt (c.precondition.map fun p => BitVec.ofNat 16 p.window) ++ tail := by
    rw [show 13 = 12 + 1 from rfl, ← List.drop_drop, hafter]
    rfl
  have hgroup := c.group.isLt
  rw [htail] at hword
  have hcond : readCondition b = .ok c.condition := hb ▸ readCondition_items w c.condition _ hcondition
  rw [← hb, readContents, hcond, ok_bind, readQualifier_written (hword 0) hqualifier, ok_bind,
    readPrecondition_written hthirteen hprecondition, ok_bind, paramSmall_written (x := c.group.val) (hword 4) (by omega),
    Option.bind_some, indexBelow_eq_some c.group rfl, needAt_some, ok_bind, readBudget_written (hword 5) hbudget, ok_bind,
    readOptIndex_written (by decide) 140 (hword 8), ok_bind, readOptIndex_written (by decide) 141 (hword 9), ok_bind,
    readPulse_written 142 (hword 10), ok_bind,
    paramFull_written (n := 18) (x := c.holdoff) (hword 6) (hword 7) (by omega), needAt_some, ok_bind,
    paramYesNo_written (n := 23) (hword 11), needAt_some, ok_bind, (pulseOf_pulseWord c.pulse).1]
  rfl

/-- LOAD WATCH reads what GET WATCH writes (R40, R43). -/
theorem readLoadWatch_items (i : Fin 32) (c : Contents) (rest : List Word) (hcondition : c.condition.Fits)
    (hqualifier : if c.condition.counts then 1 ≤ c.qualifier ∧ c.qualifier ≤ 255 else c.qualifier = 1)
    (hprecondition : ∀ p, c.precondition = some p → p.watch.val < i.val ∧ 1 ≤ p.window ∧ p.window ≤ 65535)
    (hbudget : ∀ n, c.budget = some n → 1 ≤ n ∧ n ≤ 255) (hholdoff : c.holdoff ≤ 65535) :
    readLoadWatch ([BitVec.ofNat 16 i.val] ++ c.items ++ rest) = .ok (i, c) := by
  have hi := i.isLt
  rw [readLoadWatch, paramSmall_written (x := i.val) rfl (by omega), Option.bind_some, indexBelow_eq_some i rfl, needAt_some,
    ok_bind, readContents_items _ c rest hcondition hqualifier hprecondition hbudget hholdoff]
  rfl

/-! ### Profiles and event entries -/

theorem readPolicy_code (p : Policy) : readPolicy p.code = some p := by
  cases p <;> rfl

/-- LOAD PROFILE reads what GET PROFILE writes (R78, R81). -/
theorem readLoadProfile_items (i : Fin 8) (p : Profile) (rest : List Word) (hlow : 1 ≤ p.slots.length)
    (hhigh : p.slots.length ≤ 16) (hslots : p.slots.Nodup) (hpre : p.pre ≤ 1024) (hpost : 1 ≤ p.post)
    (hpost' : p.post ≤ 65535) (hdec : 1 ≤ p.decimation) (hdec' : p.decimation ≤ 256)
    (hspan : p.pre * p.decimation ≤ 1024) :
    readLoadProfile ([BitVec.ofNat 16 i.val] ++ p.items ++ rest) = .ok (i, p) := by
  have hi := i.isLt
  obtain ⟨tail, htail⟩ : ∃ tail, tail = itemSmall p.pre ++ itemFull (BitVec.ofNat 16 p.post) ++ itemSmall p.decimation ++
      itemSmall p.policy.code ++ itemYesNo p.autoRelease ++ itemYesNo p.notify ++ rest := ⟨_, rfl⟩
  have hbody : [BitVec.ofNat 16 i.val] ++ p.items ++ rest =
      [BitVec.ofNat 16 i.val, BitVec.ofNat 16 p.slots.length] ++ (packSlots p.slots ++ tail) := by
    rw [htail, Profile.items]
    simp only [List.append_assoc]
    rfl
  rw [hbody]
  obtain ⟨b, hb⟩ : ∃ b, b = [BitVec.ofNat 16 i.val, BitVec.ofNat 16 p.slots.length] ++ (packSlots p.slots ++ tail) := ⟨_, rfl⟩
  have hword (n : Nat) : paramWord b (2 + (p.slots.length + 1) / 2 + n) = tail[n]? := by
    have hlong : ([BitVec.ofNat 16 i.val, BitVec.ofNat 16 p.slots.length] ++ packSlots p.slots).length =
        2 + (p.slots.length + 1) / 2 := by
      rw [List.length_append, length_packSlots]
      rfl
    rw [paramWord, hb, ← List.append_assoc, ← hlong, List.getElem?_append_right (Nat.le_add_right ..), Nat.add_sub_cancel_left]
  rw [htail] at hword
  have hcount : paramSmall b 1 = some p.slots.length := paramSmall_written (by rw [hb]; rfl) (by omega)
  have hlist : paramSlots b 2 p.slots.length = some p.slots := by
    rw [hb]
    exact paramSlots_packSlots [BitVec.ofNat 16 i.val, BitVec.ofNat 16 p.slots.length] p.slots tail
  have hsize : (p.slots.length != 0 && decide (p.slots.length ≤ 16)) = true := by
    rw [Bool.and_eq_true, bne_iff_ne, decide_eq_true_iff]
    omega
  have hcode : p.policy.code < 256 := by cases p.policy <;> decide
  rw [← hb, readLoadProfile, paramSmall_written (x := i.val) (by rw [hb]; rfl) (by omega), Option.bind_some,
    indexBelow_eq_some i rfl, needAt_some, ok_bind, readProfile, hcount,
    needThat_ok (p := fun n => n != 0 && decide (n ≤ 16)) hsize, ok_bind, hlist,
    needThat_ok (p := fun l : List (BitVec 8) => decide l.Nodup) (decide_eq_true hslots), ok_bind]
  dsimp only
  rw [paramSmall_written (n := 2 + (p.slots.length + 1) / 2) (x := p.pre) (hword 0) (by omega),
    needThat_ok (p := fun n => decide (n ≤ 1024)) (decide_eq_true hpre),
    ok_bind, paramFull_written (x := p.post) (hword 1) (hword 2) (by omega),
    needThat_ok (p := fun n => n != 0) (bne_iff_ne.2 (by omega)), ok_bind,
    paramSmall_written (x := p.decimation) (hword 3) (by omega),
    needThat_ok (p := fun n => n != 0 && decide (n ≤ 256)) (by simp; omega), ok_bind, needTrue_ok (decide_eq_true hspan),
    ok_bind, paramEnum_written (x := p.policy.code) (hword 4) hcode, Option.bind_some, readPolicy_code, needAt_some, ok_bind,
    paramYesNo_written (hword 5), needAt_some, ok_bind, paramYesNo_written (hword 6), needAt_some, ok_bind]
  rfl

theorem readMask_written (check : Nat) (m : BitVec 4) : readMask check (some (m.setWidth 16)) = .ok m := by
  have hm := m.isLt
  have hsmall : (m.setWidth 16).toNat ≤ 15 := by
    rw [BitVec.toNat_setWidth, Nat.mod_eq_of_lt (by omega)]
    omega
  rw [readMask, needThat_ok (p := fun w : Word => decide (w.toNat ≤ 15)) (decide_eq_true hsmall)]
  exact congrArg Except.ok (by simp)

/-- SET EVENT ENTRY reads what GET EVENT ENTRY writes (R145, R146). -/
theorem readEventEntry_items (k : Fin 16) (e : EventEntry) (rest : List Word) :
    readEventEntry ([BitVec.ofNat 16 k.val] ++ e.items ++ rest) = .ok (k, e) := by
  have hk := k.isLt
  obtain ⟨b, hb⟩ : ∃ b, b = [BitVec.ofNat 16 k.val] ++ e.items ++ rest := ⟨_, rfl⟩
  have harm : paramWord b 2 = some (e.arm.setWidth 16) := by rw [hb]; rfl
  have hdisarm : paramWord b 3 = some (e.disarm.setWidth 16) := by rw [hb]; rfl
  have hlines : paramWord b 5 = some (pulseWord e.pulse) := by rw [hb]; rfl
  have henable : paramYesNo b 1 = some e.enable := paramYesNo_written (by rw [hb]; rfl)
  have hzero : paramYesNo b 4 = some e.zeroTime := paramYesNo_written (by rw [hb]; rfl)
  rw [← hb, readEventEntry, paramSmall_written (x := k.val) (by rw [hb]; rfl) (by omega), Option.bind_some,
    indexBelow_eq_some k rfl, needAt_some, ok_bind, harm, readMask_written, ok_bind, hdisarm, readMask_written, ok_bind,
    henable, needAt_some, ok_bind, hzero, needAt_some, ok_bind,
    readPulse_written 40 hlines, ok_bind, (pulseOf_pulseWord e.pulse).1]
  rfl

end Sys2Proof.Machine
end

section
/-! Bodies of LOAD WATCH and LOAD PROFILE are refused at the first check that they break (R40, R78). -/

namespace Sys2Proof.Machine

variable {α β : Type} {b : List Word} {n m x : Nat} {P P' : Prop} {checks checks' : List (Nat × Prop)} {e : Except Nat α}
  {f : α → Except Nat β} {Q : α → Prop} {Q' : β → Prop}

/-! ### A list of checks, each with what breaks it -/

/-- A reading goes through checks in turn: it is refused at the first that is broken, and ends as `Q` says where none is. -/
def Checked : List (Nat × Prop) → Except Nat α → (α → Prop) → Prop
  | [], e, Q => ∃ a, e = .ok a ∧ Q a
  | check :: rest, e, Q => (check.2 → e = .error check.1) ∧ (¬check.2 → Checked rest e Q)

theorem Checked.first (h : Checked checks e Q) {before after : List (Nat × Prop)} {check : Nat × Prop}
    (hchecks : checks = before ++ check :: after) (hbefore : ∀ y ∈ before, ¬y.2) (hbroken : check.2) :
    e = .error check.1 := by
  induction before generalizing checks with
  | nil =>
    rw [hchecks] at h
    exact h.1 hbroken
  | cons y before ih =>
    rw [hchecks] at h
    exact ih (h.2 (hbefore y List.mem_cons_self)) rfl fun z hz => hbefore z (List.mem_cons_of_mem _ hz)

theorem Checked.bind (h : Checked checks e Q) (hf : ∀ a, Q a → Checked checks' (f a) Q') :
    Checked (checks ++ checks') (e >>= f) Q' := by
  induction checks with
  | nil =>
    obtain ⟨a, rfl, ha⟩ := h
    exact hf a ha
  | cons check rest ih => exact ⟨fun hbroken => by rw [h.1 hbroken]; rfl, fun hpassed => ih (h.2 hpassed)⟩

/-- One check, then the rest. -/
theorem Checked.step (h : Checked [(n, P')] e Q) (hP : P ↔ P') (hf : ∀ a, Q a → Checked checks (f a) Q') :
    Checked ((n, P) :: checks) (e >>= f) Q' := by
  rw [propext hP]
  exact h.bind hf

/-- A check that does not apply. -/
theorem Checked.skip (h : Checked checks e Q) (hP : ¬P) : Checked ((n, P) :: checks) e Q :=
  ⟨fun hbroken => absurd hbroken hP, fun _ => h⟩

theorem Checked.done {a : α} (h : Q a) : Checked [] (.ok a) Q := ⟨a, rfl, h⟩

theorem Checked.unbroken {a : α} (hchecks : ∀ y ∈ checks, ¬y.2) (h : Q a) : Checked checks (.ok a) Q := by
  induction checks with
  | nil => exact .done h
  | cons y rest ih => exact .skip (ih fun z hz => hchecks z (List.mem_cons_of_mem _ hz)) (hchecks y List.mem_cons_self)

theorem checked_needThat {y : α} {p : α → Bool} (h : p y = true ↔ ¬P) :
    Checked [(n, P)] (needThat n (some y) p) (fun a => a = y) :=
  ⟨fun hP => if_neg fun hp => h.1 hp hP, fun hP => ⟨y, if_pos (h.2 hP), rfl⟩⟩

theorem checked_needTrue {y : Bool} (h : y = true ↔ ¬P) : Checked [(n, P)] (needTrue n y) (fun _ => True) :=
  ⟨fun hP => if_neg fun hy => h.1 hy hP, fun hP => ⟨(), if_pos (h.2 hP), trivial⟩⟩

theorem checked_needAt {o : Option α} (hnone : P → o = none) (hsome : ¬P → ∃ a, o = some a) :
    Checked [(n, P)] (needAt n o) (fun _ => True) :=
  ⟨fun hP => by rw [hnone hP, needAt_none], fun hP => by
    obtain ⟨a, rfl⟩ := hsome hP
    exact ⟨a, rfl, trivial⟩⟩

theorem checked_index : Checked [(n, m ≤ x)] (needAt n (indexBelow m x)) (fun i => i.val = x) :=
  ⟨fun h => by rw [indexBelow_eq_none h, needAt_none], fun h =>
    ⟨⟨x, by omega⟩, by rw [indexBelow_eq_some ⟨x, by omega⟩ rfl, needAt_some], rfl⟩⟩

/-- A reading that gives nothing. -/
def Fails (e : Except Nat α) : Prop := ∃ n, e = .error n

theorem Fails.bind (h : ∀ a, Fails (f a)) : Fails (e >>= f) := by
  cases e with
  | error n => exact ⟨n, rfl⟩
  | ok a => exact h a

theorem Fails.head (h : Fails e) : Fails (e >>= f) := by
  obtain ⟨n, rfl⟩ := h
  exact ⟨n, rfl⟩

/-! ### The words of a body -/

/-- A word of a body as a number; 0 where there is none. -/
def numberAt (b : List Word) (n : Nat) : Nat := (b.getD n 0).toNat

theorem paramWord_getD (h : n < b.length) : paramWord b n = some (b.getD n 0) := by
  rw [paramWord, List.getD_eq_getElem?_getD, List.getElem?_eq_getElem h, Option.getD_some]

theorem paramSmall_getD (h : n < b.length) : paramSmall b n = some (numberAt b n) := by
  rw [paramSmall, paramWord_getD h]
  rfl

theorem paramEnum_getD (h : n < b.length) : paramEnum b n = some (numberAt b n % 256) := by
  rw [paramEnum, paramWord_getD h]
  rfl

theorem paramFull_getD (h : n + 1 < b.length) :
    paramFull b n = if numberAt b n = 1 then some (numberAt b (n + 1)) else none := by
  rw [paramFull, paramWord_getD (by omega : n < b.length), paramWord_getD h]
  exact if_congr (BitVec.toNat_inj (y := 1)).symm rfl rfl

theorem paramPresence_getD (h : n + 1 < b.length) :
    paramPresence b n = if numberAt b n = 0 then some false else if numberAt b n = 1 then some true else none := by
  rw [paramPresence, paramWord_getD (by omega : n < b.length), paramWord_getD h]
  exact if_congr (BitVec.toNat_inj (y := 0)).symm rfl (if_congr (BitVec.toNat_inj (y := 1)).symm rfl rfl)

theorem checked_paramFull (h : m + 1 < b.length) : Checked [(n, numberAt b m ≠ 1 ∨ numberAt b (m + 1) = 0)]
    (needThat n (paramFull b m) fun x => x != 0) (fun x => x = numberAt b (m + 1)) := by
  rw [paramFull_getD h]
  by_cases h1 : numberAt b m = 1
  · rw [if_pos h1]
    exact checked_needThat (by rw [bne_iff_ne]; omega)
  · rw [if_neg h1]
    exact ⟨fun _ => rfl, fun hP => absurd (.inl h1) hP⟩

/-- A field of two codes. -/
theorem checked_twoCodes {read : Nat → Option α} (h0 : ∃ a, read 0 = some a) (h1 : ∃ a, read 1 = some a)
    (hmore : ∀ x, read (x + 2) = none) : Checked [(n, 1 < x)] (needAt n (read x)) (fun _ => True) := by
  refine checked_needAt (fun h => ?_) fun h => ?_
  · obtain ⟨y, rfl⟩ := Nat.exists_eq_add_of_le' h
    exact hmore y
  · obtain rfl | rfl : x = 0 ∨ x = 1 := by omega
    · exact h0
    · exact h1

/-- Yes or no by its code (R190). -/
def yesNoOf : Nat → Option Bool
  | 0 => some false
  | 1 => some true
  | _ + 2 => none

theorem paramYesNo_getD (h : m < b.length) : paramYesNo b m = yesNoOf (numberAt b m % 256) := by
  rw [paramYesNo, paramEnum_getD h]
  obtain h0 | h1 | ⟨x, hx⟩ : numberAt b m % 256 = 0 ∨ numberAt b m % 256 = 1 ∨ ∃ x, numberAt b m % 256 = x + 2 := by
    obtain h | h := Nat.lt_or_ge (numberAt b m % 256) 2
    · omega
    · simp only [Nat.exists_eq_add_of_le' h, or_true]
  · rw [h0]
    rfl
  · rw [h1]
    rfl
  · rw [hx]
    rfl

theorem checked_paramYesNo (h : m < b.length) :
    Checked [(n, 1 < numberAt b m % 256)] (needAt n (paramYesNo b m)) (fun _ => True) := by
  rw [paramYesNo_getD h]
  exact checked_twoCodes ⟨_, rfl⟩ ⟨_, rfl⟩ fun _ => rfl

theorem paramYesNo_short (h : b.length ≤ m) : Fails (needAt n (paramYesNo b m)) := by
  rw [paramYesNo, paramEnum, paramWord, List.getElem?_eq_none h]
  exact ⟨n, rfl⟩

/-! ### The checks of a watch's source -/

/-- The checks of a source and the fields it uses (R40). -/
def sourceChecks (b : List Word) : List (Nat × Prop) :=
  let word (n : Nat) : Word := b.getD n 0
  let number := numberAt b
  let code (n : Nat) : Nat := number n % 256
  let level := code 1 = 0
  let edge := code 1 = 1 ∨ code 1 = 2
  let usesLo := (level ∧ code 2 ≠ 0) ∨ edge
  let usesHi := (level ∧ code 2 ≠ 1) ∨ edge
  [(20, 6 < code 1), (30, level ∧ 3 < code 2), (40, (level ∨ edge ∨ code 1 = 3) ∧ 255 < number 3),
    (50, usesLo ∧ word 4 = 0x8000), (51, usesHi ∧ word 5 = 0x8000),
    (60, (level ∧ 2 ≤ code 2 ∧ (word 5).toInt < (word 4).toInt) ∨ (edge ∧ (word 5).toInt ≤ (word 4).toInt)),
    (70, code 1 = 3 ∧ (number 6 ≠ 1 ∨ number 7 = 0)), (80, code 1 = 4 ∧ word 8 = 0), (90, code 1 = 5 ∧ 15 < number 9),
    (91, code 1 = 6 ∧ 1 < code 10), (92, code 1 = 6 ∧ 1 < code 11)]

section Source

variable (hlong : 24 ≤ b.length)
include hlong

theorem checked_slot : Checked [(40, 255 < numberAt b 3)] (readSlot b) (fun _ => True) := by
  rw [readSlot, paramSmall_getD (by omega), needThat]
  by_cases h : 255 < numberAt b 3
  · rw [if_neg (by simpa using h)]
    exact ⟨fun _ => rfl, fun hP => absurd h hP⟩
  · rw [if_pos (by simpa using h)]
    exact ⟨fun hP => absurd hP h, fun _ => ⟨_, rfl, trivial⟩⟩

theorem checked_threshold {place : Nat} (hplace : place < 24) :
    Checked [(n, b.getD place 0 = 0x8000)] (readThreshold n place b) (fun v => v = b.getD place 0) := by
  rw [readThreshold, paramWord_getD (by omega)]
  exact checked_needThat bne_iff_ne

omit hlong in
theorem readBoth_bind (strict : Bool) (f : Sample × Sample → Except Nat β) : (readBoth strict b >>= f) =
    readThreshold 50 4 b >>= fun lo => readThreshold 51 5 b >>= fun hi =>
      needTrue 60 (if strict then decide (lo.toInt < hi.toInt) else decide (lo.toInt ≤ hi.toInt)) >>= fun _ =>
        f (lo, hi) := by
  rw [readBoth]
  simp only [bind_assoc, pure_bind]

/-- The checks of lo and hi, for a source that uses both. -/
theorem checked_both (strict : Bool) {f : Sample × Sample → Except Nat β}
    {P50 P51 P60 : Prop} (h50 : P50 ↔ b.getD 4 0 = 0x8000) (h51 : P51 ↔ b.getD 5 0 = 0x8000)
    (h60 : P60 ↔ if strict then (b.getD 5 0).toInt ≤ (b.getD 4 0).toInt else (b.getD 5 0).toInt < (b.getD 4 0).toInt)
    (hf : ∀ p, Checked checks (f p) Q') :
    Checked ((50, P50) :: (51, P51) :: (60, P60) :: checks) (readBoth strict b >>= f) Q' := by
  rw [readBoth_bind]
  refine (checked_threshold hlong (by decide)).step h50 fun lo hlo => ?_
  refine (checked_threshold hlong (by decide)).step h51 fun hi hhi => ?_
  refine (checked_needTrue ?_).step h60 fun _ _ => hf _
  rw [hlo, hhi]
  cases strict <;> simp

/-- R40, checks 2 to 9. -/
theorem checked_source : Checked (sourceChecks b) (readCondition b)
    (fun c => c.counts = true ↔ numberAt b 1 % 256 = 0 ∨ numberAt b 1 % 256 = 4) := by
  have hsource : paramEnum b 1 = some (numberAt b 1 % 256) := paramEnum_getD (by omega)
  have hcmp : paramEnum b 2 = some (numberAt b 2 % 256) := paramEnum_getD (by omega)
  dsimp only [sourceChecks]
  generalize numberAt b 1 % 256 = source at hsource ⊢
  generalize numberAt b 2 % 256 = cmp at hcmp ⊢
  obtain rfl | rfl | rfl | rfl | rfl | rfl | rfl | ⟨x, rfl⟩ : source = 0 ∨ source = 1 ∨ source = 2 ∨ source = 3 ∨
      source = 4 ∨ source = 5 ∨ source = 6 ∨ ∃ x, source = x + 7 := by
    obtain h | h := Nat.lt_or_ge source 7
    · omega
    · simp only [Nat.exists_eq_add_of_le' h, or_true]
  · refine .skip (readCondition_level b hsource ▸ ?_) (by omega)
    obtain rfl | rfl | rfl | rfl | ⟨x, rfl⟩ : cmp = 0 ∨ cmp = 1 ∨ cmp = 2 ∨ cmp = 3 ∨ ∃ x, cmp = x + 4 := by
      obtain h | h := Nat.lt_or_ge cmp 4
      · omega
      · simp only [Nat.exists_eq_add_of_le' h, or_true]
    · rw [readLevel_above b hcmp]
      refine .skip ((checked_slot hlong).step (by omega) fun _ _ => .skip ?_ (by simp)) (by omega)
      exact (checked_threshold hlong (by decide)).step (by simp) fun _ _ => .unbroken (by simp) (by simp [Condition.counts])
    · rw [readLevel_below b hcmp]
      refine .skip ((checked_slot hlong).step (by omega) fun _ _ => ?_) (by omega)
      exact (checked_threshold hlong (by decide)).step (by simp) fun _ _ => .unbroken (by simp) (by simp [Condition.counts])
    · rw [readLevel_inside b hcmp]
      refine .skip ((checked_slot hlong).step (by omega) fun _ _ => ?_) (by omega)
      exact checked_both hlong false (by simp) (by simp) (by simp) fun p => .unbroken (by simp) (by simp [Condition.counts])
    · rw [readLevel_outside b hcmp]
      refine .skip ((checked_slot hlong).step (by omega) fun _ _ => ?_) (by omega)
      exact checked_both hlong false (by simp) (by simp) (by simp) fun p => .unbroken (by simp) (by simp [Condition.counts])
    · exact ⟨fun _ => readLevel_unknown b hcmp, fun h => absurd ⟨rfl, by omega⟩ h⟩
  · rw [readCondition_rise b hsource]
    refine .skip (.skip ((checked_slot hlong).step (by omega) fun _ _ => ?_) (by omega)) (by omega)
    exact checked_both hlong true (by simp) (by simp) (by simp) fun p => .unbroken (by simp) (by simp [Condition.counts])
  · rw [readCondition_fall b hsource]
    refine .skip (.skip ((checked_slot hlong).step (by omega) fun _ _ => ?_) (by omega)) (by omega)
    exact checked_both hlong true (by simp) (by simp) (by simp) fun p => .unbroken (by simp) (by simp [Condition.counts])
  · rw [readCondition_step b hsource]
    refine .skip (.skip ((checked_slot hlong).step (by omega) fun _ _ => ?_) (by omega)) (by omega)
    refine .skip (.skip (.skip ?_ (by simp)) (by simp)) (by simp)
    exact (checked_paramFull (by omega)).step (by simp) fun _ _ => .unbroken (by simp) (by simp [Condition.counts])
  · rw [readCondition_mark b hsource, paramWord_getD (by omega : 8 < b.length)]
    refine .skip (.skip (.skip (.skip (.skip (.skip (.skip ?_ ?_) ?_) ?_) ?_) ?_) ?_) ?_
    · exact (checked_needThat (p := fun w => w != 0) (P := b.getD 8 0 = 0) bne_iff_ne).step (by simp) fun _ _ =>
        .unbroken (by simp) (by simp [Condition.counts])
    all_goals simp
  · rw [readCondition_event b hsource, paramSmall_getD (by omega : 9 < b.length), Option.bind_some]
    refine .skip (.skip (.skip (.skip (.skip (.skip (.skip (.skip ?_ ?_) ?_) ?_) ?_) ?_) ?_) ?_) ?_
    · exact (checked_index (m := 16)).step (by omega) fun _ _ => .unbroken (by simp) (by simp [Condition.counts])
    all_goals simp
  · rw [readCondition_line b hsource, paramEnum_getD (by omega : 10 < b.length), paramEnum_getD (by omega : 11 < b.length),
      Option.bind_some, Option.bind_some]
    refine .skip (.skip (.skip (.skip (.skip (.skip (.skip (.skip (.skip ?_ ?_) ?_) ?_) ?_) ?_) ?_) ?_) ?_) ?_
    · refine (checked_twoCodes (read := readLine) ⟨_, rfl⟩ ⟨_, rfl⟩ fun _ => rfl).step (by omega) fun _ _ => ?_
      exact (checked_twoCodes (read := readEdge) ⟨_, rfl⟩ ⟨_, rfl⟩ fun _ => rfl).step (by omega) fun _ _ =>
        .done (by simp [Condition.counts])
    all_goals simp
  · exact ⟨fun _ => readCondition_unknown b hsource, fun h => absurd (by omega) h⟩

end Source

/-! ### The checks of the other fields of a watch -/

/-- The checks of a watch's fields after its source (R40). -/
def fieldChecks (b : List Word) : List (Nat × Prop) :=
  let number := numberAt b
  let code (n : Nat) : Nat := number n % 256
  [(100, (code 1 = 0 ∨ code 1 = 4) ∧ (number 12 = 0 ∨ 255 < number 12)),
    (110, number 13 ≠ 65535 ∧ (31 < number 13 ∨ number 0 ≤ number 13)),
    (111, if number 13 = 65535 then 1 < number 14 else number 14 ≠ 1 ∨ number 15 = 0), (120, 3 < number 16),
    (130, number 17 ≠ 65535 ∧ (number 17 = 0 ∨ 255 < number 17)), (140, number 20 ≠ 65535 ∧ 7 < number 20),
    (141, number 21 ≠ 65535 ∧ 15 < number 21), (142, 3 < number 22), (150, number 18 ≠ 1), (160, 1 < code 23)]

section Fields

variable (hlong : 24 ≤ b.length)
include hlong

theorem checked_qualifier (c : Condition) : Checked [(100, c.counts = true ∧ (numberAt b 12 = 0 ∨ 255 < numberAt b 12))]
    (readQualifier c b) (fun _ => True) := by
  rw [readQualifier_eq, paramSmall_getD (by omega), needThat]
  by_cases hc : c.counts = true
  · by_cases hq : numberAt b 12 = 0 ∨ 255 < numberAt b 12
    · rw [if_pos hc, if_neg (by simp; omega)]
      exact ⟨fun _ => rfl, fun h => absurd ⟨hc, hq⟩ h⟩
    · rw [if_pos hc, if_pos (by simp; omega)]
      exact .unbroken (by simpa using fun _ => not_or.1 hq) trivial
  · rw [if_neg hc]
    exact .unbroken (by simpa using fun h => absurd h hc) trivial

theorem checked_precondition {own : Nat} :
    Checked [(110, numberAt b 13 ≠ 65535 ∧ (31 < numberAt b 13 ∨ own ≤ numberAt b 13)),
      (111, if numberAt b 13 = 65535 then 1 < numberAt b 14 else numberAt b 14 ≠ 1 ∨ numberAt b 15 = 0)]
      (readPrecondition own b) (fun _ => True) := by
  rw [readPrecondition, paramSmall_getD (by omega), needAt_some, ok_bind]
  by_cases habsent : numberAt b 13 = absentNumber
  · rw [if_pos habsent]
    refine .skip ?_ fun h => h.1 habsent
    refine Checked.step (P' := 1 < numberAt b 14) (Q := fun _ => True) ?_
      (by rw [if_pos (show numberAt b 13 = 65535 from habsent)])
      fun _ _ => .done trivial
    rw [paramPresence_getD (by omega)]
    refine checked_needAt (fun h => ?_) fun h => ?_
    · rw [if_neg (by omega), if_neg (by omega)]
    · obtain h0 | h1 : numberAt b 14 = 0 ∨ numberAt b 14 = 1 := by omega
      · exact ⟨false, if_pos h0⟩
      · exact ⟨true, by rw [if_neg (by omega), if_pos h1]⟩
  · rw [if_neg habsent]
    by_cases hbig : 31 < numberAt b 13
    · rw [indexBelow_eq_none hbig]
      exact ⟨fun _ => rfl, fun h => absurd ⟨habsent, .inl hbig⟩ h⟩
    · rw [indexBelow_eq_some ⟨numberAt b 13, by omega⟩ rfl, needAt_some, ok_bind]
      refine (checked_needTrue (P := own ≤ numberAt b 13) (by simp)).step ?_ fun _ _ => ?_
      · rw [and_iff_right (show numberAt b 13 ≠ 65535 from habsent), or_iff_right hbig]
      · exact (checked_paramFull (by omega)).step (by rw [if_neg (show ¬numberAt b 13 = 65535 from habsent)]) fun _ _ =>
          .done trivial

omit hlong in
theorem checked_optIndex : Checked [(n, x ≠ 65535 ∧ m ≤ x)] (readOptIndex n m (some x)) (fun _ => True) := by
  rw [readOptIndex, needAt_some, ok_bind]
  by_cases habsent : x = absentNumber
  · rw [if_pos habsent]
    exact .skip (.done trivial) fun h => h.1 habsent
  · rw [if_neg habsent]
    exact checked_index.step (and_iff_right habsent) fun _ _ => .done trivial

theorem checked_budget : Checked [(130, numberAt b 17 ≠ 65535 ∧ (numberAt b 17 = 0 ∨ 255 < numberAt b 17))] (readBudget b)
    (fun _ => True) := by
  rw [readBudget, paramSmall_getD (by omega), needAt_some, ok_bind]
  by_cases habsent : numberAt b 17 = absentNumber
  · rw [if_pos habsent]
    exact .skip (.done trivial) fun h => h.1 habsent
  · rw [if_neg habsent]
    refine (checked_needTrue (P := numberAt b 17 = 0 ∨ 255 < numberAt b 17) ?_).step (and_iff_right habsent) fun _ _ =>
      .done trivial
    rw [Bool.and_eq_true, bne_iff_ne, decide_eq_true_iff]
    omega

theorem checked_holdoff : Checked [(150, numberAt b 18 ≠ 1)] (needAt 150 (paramFull b 18)) (fun _ => True) := by
  rw [paramFull_getD (by omega)]
  exact checked_needAt (fun h => if_neg h) fun h => ⟨_, if_pos (not_not.1 h)⟩

theorem checked_pulse : Checked [(142, 3 < numberAt b 22)]
    (needThat 142 (paramWord b 22) fun w => decide (w.toNat ≤ 3)) (fun w => w = b.getD 22 0) := by
  rw [paramWord_getD (by omega)]
  exact checked_needThat (p := fun w : Word => decide (w.toNat ≤ 3)) (by rw [decide_eq_true_iff, numberAt, Nat.not_lt])

/-- R40, all checks after the first. -/
theorem checked_contents : Checked (sourceChecks b ++ fieldChecks b) (readContents (numberAt b 0) b) (fun _ => True) := by
  rw [readContents]
  refine (checked_source hlong).bind fun c hc => ?_
  dsimp only [fieldChecks]
  refine (checked_qualifier hlong c).step (by rw [hc]) fun _ _ => ?_
  refine (checked_precondition hlong).bind fun _ _ => ?_
  rw [paramSmall_getD (by omega : 16 < b.length), paramSmall_getD (by omega : 20 < b.length),
    paramSmall_getD (by omega : 21 < b.length), Option.bind_some]
  refine (checked_index (m := 4)).step (by omega) fun _ _ => ?_
  refine (checked_budget hlong).step Iff.rfl fun _ _ => ?_
  refine (checked_optIndex (m := 8)).step (by omega) fun _ _ => ?_
  refine (checked_optIndex (m := 16)).step (by omega) fun _ _ => ?_
  refine (checked_pulse hlong).step Iff.rfl fun _ _ => ?_
  refine (checked_holdoff hlong).step Iff.rfl fun _ _ => ?_
  exact (checked_paramYesNo (by omega)).step Iff.rfl fun _ _ => .done trivial

theorem checked_loadWatch : Checked ((10, 31 < numberAt b 0) :: (sourceChecks b ++ fieldChecks b)) (readLoadWatch b)
    (fun _ => True) := by
  rw [readLoadWatch, paramSmall_getD (by omega), Option.bind_some]
  refine (checked_index (m := 32)).step Iff.rfl fun i hi => ?_
  rw [hi, ← List.append_nil (sourceChecks b ++ fieldChecks b)]
  exact (checked_contents hlong).bind fun _ _ => .done trivial

end Fields

/-- A body without all its words is refused at some check (R40). -/
theorem readLoadWatch_short (h : b.length < 24) : Fails (readLoadWatch b) := by
  rw [readLoadWatch]
  refine .bind fun i => .head ?_
  rw [readContents]
  refine .bind fun _ => .bind fun _ => .bind fun _ => .bind fun _ => .bind fun _ => .bind fun _ => .bind fun _ => ?_
  exact .bind fun _ => .bind fun _ => .head (paramYesNo_short (by omega))

/-! ### The checks of a profile -/

/-- The slots that a body lists (R190). -/
def listedSlots (b : List Word) (count : Nat) : List (BitVec 8) :=
  (((b.drop 2).take ((count + 1) / 2)).flatMap slotPair).take count

/-- The checks of LOAD PROFILE (R78). -/
def profileChecks (b : List Word) : List (Nat × Prop) :=
  let number := numberAt b
  let count := number 1
  let place := 2 + (count + 1) / 2
  [(10, 7 < number 0), (20, count = 0 ∨ 16 < count), (30, ¬(listedSlots b count).Nodup), (40, 1024 < number place),
    (50, number (place + 1) ≠ 1 ∨ number (place + 2) = 0), (60, number (place + 3) = 0 ∨ 256 < number (place + 3)),
    (70, 1024 < number place * number (place + 3)), (80, 1 < number (place + 4) % 256),
    (81, 1 < number (place + 5) % 256), (82, 1 < number (place + 6) % 256)]

theorem checked_loadProfile (hlong : 2 + (numberAt b 1 + 1) / 2 + 7 ≤ b.length) :
    Checked (profileChecks b) (readLoadProfile b) (fun _ => True) := by
  have hslots : paramSlots b 2 (numberAt b 1) = some (listedSlots b (numberAt b 1)) :=
    if_pos (by rw [List.length_take, List.length_drop]; omega)
  dsimp only [profileChecks]
  rw [readLoadProfile, paramSmall_getD (by omega), Option.bind_some]
  refine (checked_index (m := 8)).step Iff.rfl fun i _ => ?_
  suffices h : Checked _ (readProfile b) (fun _ => True) from by
    rw [← List.append_nil (_ :: _)]
    exact h.bind fun _ _ => .done trivial
  rw [readProfile, paramSmall_getD (by omega)]
  refine (checked_needThat (P := numberAt b 1 = 0 ∨ 16 < numberAt b 1) ?_).step Iff.rfl fun count hcount => ?_
  · rw [Bool.and_eq_true, bne_iff_ne, decide_eq_true_iff]
    omega
  subst hcount
  rw [hslots]
  refine (checked_needThat (by rw [decide_eq_true_iff, not_not])).step Iff.rfl fun _ _ => ?_
  dsimp only
  generalize hplace : 2 + (numberAt b 1 + 1) / 2 = place at hlong ⊢
  rw [paramSmall_getD (by omega : place < b.length), paramSmall_getD (by omega : place + 3 < b.length),
    paramEnum_getD (by omega : place + 4 < b.length), Option.bind_some]
  refine (checked_needThat (P := 1024 < numberAt b place) ?_).step Iff.rfl fun pre hpre => ?_
  · rw [decide_eq_true_iff, Nat.not_lt]
  refine (checked_paramFull (by omega)).step Iff.rfl fun _ _ => ?_
  refine (checked_needThat (P := numberAt b (place + 3) = 0 ∨ 256 < numberAt b (place + 3)) ?_).step Iff.rfl
    fun decimation hdec => ?_
  · rw [Bool.and_eq_true, bne_iff_ne, decide_eq_true_iff]
    omega
  subst hpre hdec
  refine (checked_needTrue (by rw [decide_eq_true_iff, ← Nat.not_lt])).step Iff.rfl fun _ _ => ?_
  refine (checked_twoCodes (read := readPolicy) ⟨_, rfl⟩ ⟨_, rfl⟩ fun _ => rfl).step Iff.rfl fun _ _ => ?_
  refine (checked_paramYesNo (by omega)).step Iff.rfl fun _ _ => ?_
  exact (checked_paramYesNo (by omega)).step Iff.rfl fun _ _ => .done trivial

/-- A body without all its words is refused at some check (R78). -/
theorem readLoadProfile_short (h : b.length < 2 + (numberAt b 1 + 1) / 2 + 7) : Fails (readLoadProfile b) := by
  rw [readLoadProfile]
  refine .bind fun i => .head ?_
  rw [readProfile]
  by_cases hone : 1 < b.length
  · rw [paramSmall_getD hone, needThat]
    split
    · rw [ok_bind]
      exact .bind fun _ => .bind fun _ => .bind fun _ => .bind fun _ => .bind fun _ => .bind fun _ => .bind fun _ =>
        .head (paramYesNo_short (by omega))
    · exact ⟨_, rfl⟩
  · rw [paramSmall, paramWord, List.getElem?_eq_none (by omega)]
    exact ⟨_, rfl⟩

/-- Settles O60: what is written is read back, and a body is read through its checks in their order. -/
theorem contentsReadBack : Obligations.ContentsReadBack := by
  unfold Obligations.ContentsReadBack
  refine ⟨fun i c rest hcondition hqualifier hprecondition hbudget hholdoff => ?watch, fun rest => ⟨?profile, ?event⟩,
    fun b => ?loadWatch, fun b => ?loadProfile⟩
  case watch =>
    obtain ⟨condition, qualifier, precondition, group, budget, holdoff, profile, markCode, pulse, notify⟩ := c
    have hfits : condition.Fits := by cases condition <;> exact hcondition
    have hcounts : if condition.counts then 1 ≤ qualifier ∧ qualifier ≤ 255 else qualifier = 1 := by
      cases condition <;> simpa [Condition.counts] using hqualifier
    exact readLoadWatch_items i _ rest hfits hcounts hprecondition hbudget hholdoff
  case profile =>
    intro i p hlow hhigh hslots hpre hpost hpost' hdec hdec' hspan
    exact readLoadProfile_items i p rest hlow hhigh hslots hpre hpost hpost' hdec hdec' hspan
  case event => exact fun k e => readEventEntry_items k e rest
  case loadWatch =>
    intro word number code level edge usesLo usesHi checks
    exact ⟨fun hlong before after x hchecks hbefore hx => (checked_loadWatch hlong).first hchecks hbefore hx,
      readLoadWatch_short⟩
  case loadProfile =>
    intro number count place slots checks
    exact ⟨fun hlong before after x hchecks hbefore hx => (checked_loadProfile hlong).first hchecks hbefore hx,
      readLoadProfile_short⟩

end Sys2Proof.Machine
end
